-- ==== Sys2Proof/Word.lean ====
section
/-!
DEFINITION. The words of the SGH-740 that the manual treats as bits: bytes and 16-bit fields of the
frames (R197), 12-bit angles (00_scope, 3.1: 0 to 4095 au, wrapping), the 32-bit drum counts (R2) and the
6-bit tooth count (R11).
-/

namespace Sys2Proof

/-- A byte of a frame. -/
abbrev Byte := BitVec 8

/-- A two-byte field of a frame, most significant byte first on the wire (R197). -/
abbrev Word16 := BitVec 16

/-- A swing angle, a window base or a window mask: 1/4096 turn, taken modulo 4096 (00_scope, 3.1 and 3.2). -/
abbrev Angle := BitVec 12

/-- A rope drum count: signed 32 bits, wrapping (R2). -/
abbrev Count32 := BitVec 32

/-- The cam tooth count, 0 to 63, modulo 64 (R11). -/
abbrev Teeth := BitVec 6

end Sys2Proof
end

