-- ==== Sys2Proof/Syntax.lean ====
section
/-!
DEFINITION. The commands of the SGH-740: one constructor for each row of spec/opcode_table.json. A request
carries its tag, its length field and its payload decoded into field widths (R197), so that the owning rule's
checks, the length check of R188 among them, stand in its meaning. An event carries what the part reads from
the line at that event.
-/

namespace Sys2Proof

/-- The four motions: channel codes 0 to 3 (12.4), and the drive ports P0 to P3 that serve them. -/
inductive Motion
  | hoist
  | drag
  | swing
  | walk
  deriving DecidableEq, Repr

/-- The three encoder axes and the channels kept by the MCH (R1, R69). -/
inductive Axis
  | hoist
  | drag
  | swing
  deriving DecidableEq, Repr

/-- The two rope axes (R2). -/
inductive Rope
  | hoist
  | drag
  deriving DecidableEq, Repr

/-- The motion, and so the channel and port, of an axis. -/
def Axis.motion : Axis → Motion
  | .hoist => .hoist
  | .drag => .drag
  | .swing => .swing

/-- The axis of a rope. -/
def Rope.axis : Rope → Axis
  | .hoist => .hoist
  | .drag => .drag

/-- A quadrature edge as the two channels show it (R2, R7): toward rising counts (rope OUT, clockwise), toward
falling counts (rope IN, counter-clockwise), or a change of both channels at the same instant. -/
inductive QuadEdge
  | up
  | down
  | bothChannels
  deriving DecidableEq, Repr

/-- The direction of a cam movement (R11, R12). -/
inductive CamDir
  | forward
  | reverse
  deriving DecidableEq, Repr

/-- What the cam filter judges of a pulse (R11): how long each channel's level had stood, in microseconds, and how many
writes of CAM_FILTER have been taken since the pulse began. -/
structure Pulse where
  stood : Nat
  writesSince : Nat
  deriving DecidableEq, Repr

/-- The tag and the length field of a request frame (12.2). -/
structure Header where
  tag : Byte
  len : Byte
  deriving DecidableEq, Repr

/-- One point slot as it stands in a STAGE_CURVE_POINTS payload (12.3). -/
structure RawPoint where
  x : Word16
  y : Word16
  deriving DecidableEq, Repr

/-- The reason a transaction fails its receipt checks (R187). -/
inductive FrameReason
  | short
  | long
  | sync
  | crc
  deriving DecidableEq, Repr

/-- What the part reads at the end of a reset (R185): the presence lines (bit n is Pn), and the PARK switch, true when
active. -/
structure ResetLines where
  presence : BitVec 4
  park : Bool
  deriving DecidableEq, Repr

/-- A RESET request: its header, and the lines as they stand when it is taken, RESET_N true when high, since its reset ends
at once (R184, R190). -/
structure ResetRequest where
  header : Header
  resetN : Bool
  lines : ResetLines
  deriving DecidableEq, Repr

/-- The commands: requests of the host, outcomes of a transaction, resets, field events and timer expiries. -/
inductive Instr
  /-- NOP (R196). -/
  | nop (h : Header)
  /-- STATUS (R196). -/
  | status (h : Header)
  /-- RESET, with the lines as they stand when it is taken (R184, R190). -/
  | reset (r : ResetRequest)
  /-- SET: setting id and value (R195). -/
  | set (h : Header) (id : Byte) (value : Word16)
  /-- GET: setting id (R195). -/
  | get (h : Header) (id : Byte)
  /-- EVENTS_ACK: flag set (R191). -/
  | eventsAck (h : Header) (flags : Word16)
  /-- EVENTS_MASK: flag set (R192). -/
  | eventsMask (h : Header) (flags : Word16)
  /-- SNAPSHOT (R193). -/
  | snapshot (h : Header)
  /-- SNAPSHOT_READ: part (R194). -/
  | snapshotRead (h : Header) (part : Byte)
  /-- DEMAND: the hoist, drag, swing and walk demands (R75). -/
  | demand (h : Header) (hd dd sd wd : Word16)
  /-- OPEN: channel and mode (R71, R120). -/
  | openChannel (h : Header) (channel mode : Byte)
  /-- CLOSE: channel (R85, R114). -/
  | closeChannel (h : Header) (channel : Byte)
  /-- HOLD_ALL (R91). -/
  | holdAll (h : Header)
  /-- RELEASE_ALL (R91). -/
  | releaseAll (h : Header)
  /-- REFERENCE: axis and payout (R5). -/
  | reference (h : Header) (axis : Byte) (payout : Word16)
  /-- RESUME (R181). -/
  | resume (h : Header)
  /-- PORT_RESET: port (R128). -/
  | portReset (h : Header) (port : Byte)
  /-- PORT_DISABLE: port (R136). -/
  | portDisable (h : Header) (port : Byte)
  /-- PORT_GET: port (R140). -/
  | portGet (h : Header) (port : Byte)
  /-- STAGE_WINDOW: window, marks, base, mask, sector index (R54). -/
  | stageWindow (h : Header) (window marks : Byte) (base mask : Word16) (sector : Byte)
  /-- STAGE_SECTOR: sector, curves, D limits, caps (R55). -/
  | stageSector (h : Header) (sector ceiling floor : Byte) (dmin dmax hoistCap dragCap swingCap : Word16)
  /-- STAGE_CURVE_LENGTH: curve and point count (R56). -/
  | stageCurveLength (h : Header) (curve n : Byte)
  /-- STAGE_CURVE_POINTS: curve, first slot, and the six points the payload has room for; the length says how
  many are meant (R57, 12.3). -/
  | stageCurvePoints (h : Header) (curve first : Byte) (points : Vector RawPoint 6)
  /-- STAGE_BRAKE_CURVE: curve (R58). -/
  | stageBrakeCurve (h : Header) (curve : Byte)
  /-- STAGE_CLEAR (R59). -/
  | stageClear (h : Header)
  /-- STAGE_COPY (R59). -/
  | stageCopy (h : Header)
  /-- COMMIT (R61). -/
  | commit (h : Header)
  /-- COMMIT_CANCEL (R65). -/
  | commitCancel (h : Header)
  /-- CONFIG_GET: bank, item, index, first slot (R53). -/
  | configGet (h : Header) (bank item index first : Byte)
  /-- SECTOR_AT: angle and bank (R32). -/
  | sectorAt (h : Header) (angle : Word16) (bank : Byte)
  /-- LEG_APPEND: window, steps, speed (R100). -/
  | legAppend (h : Header) (window steps : Byte) (speed : Word16)
  /-- LEG_DROP: leg id (R101). -/
  | legDrop (h : Header) (id : Byte)
  /-- PLAN_CLEAR (R102). -/
  | planClear (h : Header)
  /-- PLAN_GET: first position (R102). -/
  | planGet (h : Header) (first : Byte)
  /-- WALK_START (R105, R118). -/
  | walkStart (h : Header)
  /-- WALK_HALT (R114). -/
  | walkHalt (h : Header)
  /-- DEFINE: code, class, scope, persistence, derate cap, polarity (R146). -/
  | define (h : Header) (code cls scope persistence : Byte) (cap : Word16) (polarity : Byte)
  /-- DEFINITION_GET: code (R147). -/
  | definitionGet (h : Header) (code : Byte)
  /-- RAISE: code and, at length 3, a value (R153). -/
  | raise (h : Header) (code : Byte) (value : Word16)
  /-- CLEAR: code (R153). -/
  | clear (h : Header) (code : Byte)
  /-- ACK: code (R164). -/
  | ack (h : Header) (code : Byte)
  /-- ACK_ALL (R165). -/
  | ackAll (h : Header)
  /-- SHELVE: code and minutes (R166). -/
  | shelve (h : Header) (code minutes : Byte)
  /-- UNSHELVE: code (R167). -/
  | unshelve (h : Header) (code : Byte)
  /-- SILENCE (R174). -/
  | silence (h : Header)
  /-- ALARM_LIST_FIRST (R171). -/
  | alarmListFirst (h : Header)
  /-- ALARM_LIST_NEXT (R171). -/
  | alarmListNext (h : Header)
  /-- ALARM_GET: code (R173). -/
  | alarmGet (h : Header) (code : Byte)
  /-- FRAME_ERROR: the rise of select ends a transaction that fails its receipt checks; the reason, and bytes 1
  and 2 as received, 0 where missing (R187). -/
  | frameError (reason : FrameReason) (tag code : Byte)
  /-- UNKNOWN_REQUEST: a good frame whose code names no request (R188). -/
  | unknownRequest (tag code : Byte)
  /-- SELECT_FALL: the microseconds since select last rose (R186). -/
  | selectFall (gap : Nat)
  /-- POWER_ON (R184). -/
  | powerOn
  /-- RESET_N_LOW: the microseconds RESET_N has been held low (R184). -/
  | resetNLow (micros : Nat)
  /-- RESET_END: a reset would end, the supply and clock established or RESET_N read again, with RESET_N, true when high,
  and the lines as they stand then (R184, R185). -/
  | resetEnd (resetN : Bool) (lines : ResetLines)
  /-- AXIS_SAMPLE_ARRIVAL: the axis and its fault line, true when active (R1). -/
  | axisSampleArrival (axis : Axis) (faultLine : Bool)
  /-- ROPE_ENCODER_EDGE (R2). -/
  | ropeEncoderEdge (rope : Rope) (edge : QuadEdge)
  /-- SWING_ENCODER_EDGE (R7). -/
  | swingEncoderEdge (edge : QuadEdge)
  /-- SWING_INDEX_MARK, in either direction (R8). -/
  | swingIndexMark
  /-- CAM_TOOTH_EDGE (R11). -/
  | camToothEdge (dir : CamDir) (pulse : Pulse)
  /-- CAM_INDEX_PASSAGE (R12). -/
  | camIndexPassage (dir : CamDir) (pulse : Pulse)
  /-- INCLINOMETER_FRAME: the bytes received on the line with no gap longer than 5 ms between them (R14, R199). -/
  | inclinometerFrame (bytes : List Byte)
  /-- INCLINOMETER_FRAME_GAP: a gap on the line, in microseconds (R199). -/
  | inclinometerFrameGap (gap : Nat)
  /-- STALENESS_TIMER_EXPIRY (R15). -/
  | stalenessTimerExpiry
  /-- EXTERNAL_INPUT_SAMPLE: the levels of X0 to X7, bit n is Xn (R151). -/
  | externalInputSample (levels : Byte)
  /-- PRESENCE_CHANGE: the port, its new level (true active), and how long it has held, in ms (R127). -/
  | presenceChange (port : Motion) (active : Bool) (held : Nat)
  /-- RESET_SEQUENCE_TICK (R129). -/
  | resetSequenceTick (port : Motion)
  /-- LINK_PERIOD_EVENT (R130). -/
  | linkPeriodEvent (port : Motion)
  /-- DRIVE_STATUS_FRAME: the port and the bytes of the frame received (R131, R198). -/
  | driveStatusFrame (port : Motion) (bytes : List Byte)
  /-- OPEN_TIMER_EXPIRY (R74). -/
  | openTimerExpiry (axis : Axis)
  /-- WALK_OPEN_TIMER_EXPIRY (R108). -/
  | walkOpenTimerExpiry
  /-- REST_TIMER_EXPIRY, of a rope, swing or walk channel (R82, R115). -/
  | restTimerExpiry (channel : Motion)
  /-- DEMAND_TIMER_EXPIRY (R76). -/
  | demandTimerExpiry (axis : Axis)
  /-- WALK_DEMAND_TIMER_EXPIRY (R121). -/
  | walkDemandTimerExpiry
  /-- BRAKE_WATCH_TIMER_EXPIRY (R137). -/
  | brakeWatchTimerExpiry (port : Motion)
  /-- COMMIT_TIMER_EXPIRY (R67). -/
  | commitTimerExpiry
  /-- SHELVE_TIMER_EXPIRY: the code of the record (R167). -/
  | shelveTimerExpiry (code : Byte)
  /-- LINK_WATCHDOG_EXPIRY (R182). -/
  | linkWatchdogExpiry
  deriving DecidableEq, Repr

end Sys2Proof
end

