-- ==== Sys2Proof/Machine/Records.lean ====
section
/-!
DEFINITION. The records the blocks of the SGH-740 keep, each a plain structure with the rule that lays it
out, and the internal deliveries (Act) that one event hands from block to block.
-/

namespace Sys2Proof.Machine

/-- One item for each of the HOIST, DRAG and SWING axes or channels. -/
structure PerAxis (α : Type) where
  hoist : α
  drag : α
  swing : α
  deriving DecidableEq, Repr

/-- One item for each motion or drive port. -/
structure PerMotion (α : Type) where
  hoist : α
  drag : α
  swing : α
  walk : α
  deriving DecidableEq, Repr

/-- The item of one axis. -/
def PerAxis.get {α : Type} (p : PerAxis α) : Axis → α
  | .hoist => p.hoist
  | .drag => p.drag
  | .swing => p.swing

/-- The items with one axis's replaced. -/
def PerAxis.set {α : Type} (p : PerAxis α) (a : Axis) (v : α) : PerAxis α :=
  match a with
  | .hoist => { p with hoist := v }
  | .drag => { p with drag := v }
  | .swing => { p with swing := v }

/-- The item of one motion. -/
def PerMotion.get {α : Type} (p : PerMotion α) : Motion → α
  | .hoist => p.hoist
  | .drag => p.drag
  | .swing => p.swing
  | .walk => p.walk

/-- The items with one motion's replaced. -/
def PerMotion.set {α : Type} (p : PerMotion α) (m : Motion) (v : α) : PerMotion α :=
  match m with
  | .hoist => { p with hoist := v }
  | .drag => { p with drag := v }
  | .swing => { p with swing := v }
  | .walk => { p with walk := v }

/-- A running timer: the period it was started with and the time left, both in ms. A stopped timer is none. -/
structure Timer where
  period : Nat
  left : Nat
  deriving DecidableEq, Repr

/-! ### Settings (12.10) -/

/-- The settings, in the order of their ids (12.10). -/
inductive Setting
  | axisPeriod
  | hoistScale
  | dragScale
  | swingCpt
  | swingIndexAngle
  | camFilter
  | tiltStale
  | rollLimit
  | pitchLimit
  | taperH
  | taperD
  | creepH
  | creepD
  | creepS
  | lookaheadD
  | accelStep (m : Motion)
  | decelStep (m : Motion)
  | demandTimeout
  | brakeTimeout
  | linkPeriod (m : Motion)
  | walkCreep
  | carryDmin
  | carryDmax
  | carryHmin
  | carryHmax
  | commitTimeout
  | linkTimeout
  deriving DecidableEq, Repr

/-! ### Banks (R19, R22, R33, R52) -/

/-- A window record (R19). -/
structure Window where
  enable : Bool
  base : Angle
  mask : Angle
  sector : Fin 8
  nogo : Bool
  walk : Bool
  deriving DecidableEq, Repr

/-- A sector record (R22). -/
structure Sector where
  ceiling : Fin 16
  floor : Fin 16
  dmin : Nat
  dmax : Nat
  hoistCap : Nat
  dragCap : Nat
  swingCap : Nat
  deriving DecidableEq, Repr

/-- A point of a curve (R33). -/
structure Point where
  x : Nat
  y : Nat
  deriving DecidableEq, Repr

/-- A curve record: the point count and the sixteen point slots (R33). -/
structure Curve where
  count : Nat
  slots : Vector Point 16
  deriving DecidableEq, Repr

/-- A configuration bank (R52). Sector 8 is SRD. -/
structure Bank where
  windows : Vector Window 16
  sectors : Vector Sector 9
  curves : Vector Curve 16
  brake : Fin 16
  deriving DecidableEq, Repr

/-- The names of the two banks (12.4). -/
inductive BankName
  | staged
  | active
  deriving DecidableEq, Repr

/-- The validation checks of a commit (R62). -/
inductive CommitDetail
  | windowAlign
  | curveUnset
  | curveOrder
  | sectorRange
  | curvesCross
  deriving DecidableEq, Repr

/-- The result of a test of the safe condition (R63). -/
inductive TestResult
  | holding
  | nogo
  | envelope
  | legWindow
  deriving DecidableEq, Repr

/-- The last outcome of a commit, with its detail (R66). -/
inductive CommitOutcome
  | done (generation : Nat)
  | refused (detail : CommitDetail) (index : Nat)
  | cancelled
  | abandoned
  deriving DecidableEq, Repr

/-- A pending commit: its timer, started at the COMMIT_TIMEOUT recorded (R67), and the last test (R63). -/
structure PendingCommit where
  timer : Timer
  lastTest : TestResult
  deriving DecidableEq, Repr

/-- The state of the Configuration Banks (R52, R66). -/
structure ConfigBanks where
  staged : Bank
  active : Bank
  generation : Nat
  commit : Option PendingCommit
  outcome : Option CommitOutcome
  deriving DecidableEq, Repr

/-! ### Axis sensing (chapter 1) -/

/-- A rope axis (1.1). -/
structure RopeAxis where
  count : Count32
  refCount : Count32
  refPayout : Nat
  payout : Nat
  referenced : Bool
  deriving DecidableEq, Repr

/-- The swing axis (1.1). -/
structure SwingAxis where
  count : Nat
  indexCount : Nat
  angle : Angle
  referenced : Bool
  deriving DecidableEq, Repr

/-- The state of the Axis Sensing Unit (1.1, R1, R11, R15, R199). -/
structure AxisUnit where
  hoist : RopeAxis
  drag : RopeAxis
  swing : SwingAxis
  teeth : Teeth
  camReferenced : Bool
  /-- The CAM_FILTER index in force before each taken write since reset, the last write first, for the pulses that began
  before it (R11). -/
  oldFilters : List Nat
  pitch : Int
  roll : Int
  stale : Bool
  sampleTimers : PerAxis (Option Timer)
  staleTimer : Option Timer
  /-- The bytes of the inclinometer frame in progress, none when no frame is in progress (R199). -/
  tiltFrame : List Byte
  deriving DecidableEq, Repr

/-! ### Channels (R69, R97) -/

/-- Channel states (R70), with codes 0 to 5 (12.4). -/
inductive ChannelState
  | closed
  | opening
  | running
  | parking
  | parked
  | closing
  deriving DecidableEq, Repr

/-- Channel modes (R69). -/
inductive Mode
  | follow
  | maint
  deriving DecidableEq, Repr

/-- Brake commands (R69): release is the manual's OPEN, apply is SET. -/
inductive Brake
  | release
  | apply
  deriving DecidableEq, Repr

/-- Last halt causes of all four channels (12.4). -/
inductive HaltCause
  | close
  | trip
  | port
  | openFailed
  | unreferenced
  | halt
  | paused
  | planDone
  | precondition
  deriving DecidableEq, Repr

/-- The hold sources of a rope or swing channel (R80). -/
structure Holds where
  holdAll : Bool
  alarm : Bool
  walk : Bool
  unreferenced : Bool
  deriving DecidableEq, Repr

/-- A hoist, drag or swing channel record (R69), with the derate term and ALARM hold last delivered (R169). -/
structure Channel where
  state : ChannelState
  mode : Mode
  demand : Int
  expired : Bool
  demandTimer : Option Timer
  permitted : Int
  reference : Int
  enable : Bool
  brake : Brake
  holds : Holds
  openTimer : Option Timer
  restTimer : Option Timer
  lastCause : Option HaltCause
  derate : Nat
  alarmHold : Bool
  deriving DecidableEq, Repr

/-- Walk channel states (R98), with codes 0 to 6 (12.4). -/
inductive WalkState
  | idle
  | opening
  | stepping
  | halting
  | stopped
  | maint
  | closing
  deriving DecidableEq, Repr

/-- Opening targets of the walk channel (R97). -/
inductive WalkTarget
  | step
  | recover
  | halt
  | maint
  deriving DecidableEq, Repr

/-- The run of the walk channel (R97). -/
structure WalkRun where
  dir : CamDir
  counted : Bool
  recovery : Bool
  deriving DecidableEq, Repr

/-- Closing origins of the walk channel (R97). -/
inductive ClosingOrigin
  | park
  | other
  deriving DecidableEq, Repr

/-- The closing origin with the cause to be recorded at the end of CLOSING (R97). -/
structure WalkClosing where
  origin : ClosingOrigin
  cause : HaltCause
  deriving DecidableEq, Repr

/-- The halt sources of the walk channel (R111). -/
structure Halts where
  holdAll : Bool
  alarm : Bool
  deriving DecidableEq, Repr

/-- The walk channel record (R97), with the derate term and ALARM hold last delivered (R169). -/
structure WalkChannel where
  state : WalkState
  target : Option WalkTarget
  run : Option WalkRun
  closing : Option WalkClosing
  demand : Int
  demandTimer : Option Timer
  permitted : Int
  reference : Int
  enable : Bool
  brake : Brake
  halts : Halts
  openTimer : Option Timer
  restTimer : Option Timer
  lastCause : Option HaltCause
  derate : Nat
  alarmHold : Bool
  deriving DecidableEq, Repr

/-- A leg of the walk plan (R99). -/
structure Leg where
  id : Nat
  window : Fin 16
  steps : Nat
  stepsDone : Nat
  speed : Nat
  deriving DecidableEq, Repr

/-! ### Drive ports (R125) -/

/-- Port states (R126). -/
inductive PortState
  | detached
  | attached
  | resetting
  | enabled
  | disabled
  deriving DecidableEq, Repr

/-- Causes of a port's state change (R125). -/
inductive PortCause
  | presenceOn
  | presenceOff
  | resetRequest
  | resetOk
  | resetFailed
  | misses
  | fault
  | disableRequest
  deriving DecidableEq, Repr

/-- The fields of a status frame's byte 2 (R198). -/
structure DriveStatus where
  ready : Bool
  fault : Bool
  atRest : Bool
  brakeSet : Bool
  brakeOpen : Bool
  deriving DecidableEq, Repr

/-- The frame awaiting a reply, with the mark saying whether its reply has been judged (R125). -/
structure Outstanding where
  seq : Byte
  judged : Bool
  deriving DecidableEq, Repr

/-- The phase of a reset sequence: reset frames with the ms since entry, or enquiries with the number sent (R129). -/
inductive ResetPhase
  | resetFrames (elapsed : Nat)
  | enquiry (sent : Nat)
  deriving DecidableEq, Repr

/-- The brake watch of a port (R137). -/
structure BrakeWatch where
  command : Brake
  confirmed : Bool
  timed : Bool
  inBreach : Bool
  timer : Option Timer
  deriving DecidableEq, Repr

/-- The kinds of frame the part sends to a drive (R198). -/
inductive FrameKind
  | reference
  | reset
  | enquiry
  deriving DecidableEq, Repr

/-- A frame the part sends to a drive, before its layout in bytes (R198). -/
structure DriveFrame where
  kind : FrameKind
  seq : Byte
  reference : Int
  enable : Bool
  brake : Brake
  deriving DecidableEq, Repr

/-- A port record (R125), with the last frame the part sent on the port. -/
structure Port where
  state : PortState
  sequence : Byte
  outstanding : Option Outstanding
  misses : Nat
  lastStatus : Option DriveStatus
  lastCause : Option PortCause
  linkTimer : Option Timer
  phase : Option ResetPhase
  watch : BrakeWatch
  sent : Option DriveFrame
  deriving DecidableEq, Repr

/-! ### Alarms (chapters 8 and 9) -/

/-- The codes that name a definition (R142, R145). -/
inductive Code
  | linkLost
  | demandLost (a : Axis)
  | driveLost (m : Motion)
  | driveFault (m : Motion)
  | brakeMismatch
  | envelopeExcursion
  | swingInNogo
  | hoistRange
  | dragRange
  | tubRoll
  | tubPitch
  | camSync
  | walkPrecondition
  | inclinometerStale
  | encoderFault (a : Axis)
  | maintMotion
  | tableOverflow
  | input (i : Fin 8)
  | host (i : Fin 24)
  deriving DecidableEq, Repr

/-- Alarm classes, from lowest to highest (R143). -/
inductive AlarmClass
  | note
  | derate
  | hold
  | stop
  deriving DecidableEq, Repr

/-- Polarities of an external input (R143). -/
inductive Polarity
  | activeHigh
  | activeLow
  deriving DecidableEq, Repr

/-- An alarm definition (R143). The host raw value of R152 is present for host codes only. -/
structure Definition where
  cls : AlarmClass
  floor : AlarmClass
  scope : PerMotion Bool
  persistence : Nat
  cap : Nat
  polarity : Option Polarity
  active : Bool
  run : Nat
  raiseValue : Option Int
  pendingMark : Bool
  hostRaw : Option Bool
  deriving DecidableEq, Repr

/-- Alarm record states (R157). -/
inductive RecordState
  | activeUnack
  | activeAck
  | clearedUnack
  | shelved
  deriving DecidableEq, Repr

/-- An alarm record (R157). The shelve timer runs in SHELVED only. -/
structure AlarmRecord where
  code : Code
  state : RecordState
  cls : AlarmClass
  scope : PerMotion Bool
  cap : Option Nat
  seq : Nat
  recurrence : Nat
  value : Option Int
  shelve : Option Timer
  deriving DecidableEq, Repr

/-- The consequence set (R169). -/
structure Consequence where
  derate : PerMotion Nat
  hold : PerMotion Bool
  trip : Bool
  deriving DecidableEq, Repr

/-- The state of the Alarm Table (R158, R159, R171, R174). The cursor is none at start, else the code of the
record it stands on. -/
structure AlarmTable where
  records : List AlarmRecord
  overflow : Option AlarmRecord
  cursor : Option Code
  silence : Bool
  sequence : Nat
  consequence : Consequence
  deriving DecidableEq, Repr

/-! ### Supervisor (R177) -/

/-- Operating states. -/
inductive OperatingState
  | start
  | ready
  | tripped
  deriving DecidableEq, Repr

/-- Reset causes (R184). -/
inductive ResetCause
  | power
  | pin
  | request
  deriving DecidableEq, Repr

/-- The state of the Supervisor (R177). The watchdog is LAPSED when lapsed, else RUNNING. -/
structure Supervisor where
  operating : OperatingState
  cause : ResetCause
  tripDemand : Bool
  lapsed : Bool
  watchdog : Option Timer
  deriving DecidableEq, Repr

/-! ### Request port (chapter 11) -/

/-- Status codes of a response (12.5). -/
inductive Status
  | ok
  | okClamped
  | accepted
  | frameError
  | unknownRequest
  | badLength
  | range
  | state
  | busy
  | noSuch
  | notConfigured
  | notReferenced
  | portNotEnabled
  | tripActive
  | walkActive
  | stagedLocked
  | commitInvalid
  | alarmLive
  | planFull
  | legActive
  | precondition
  deriving DecidableEq, Repr

/-- A response, before its layout in the 32 bytes of 12.2. -/
structure Response where
  tag : Byte
  code : Byte
  status : Status
  payload : List Byte
  deriving DecidableEq, Repr

/-- What the snapshot holds of one channel (R193), with the state as its code of 12.4. -/
structure ChannelView where
  state : Nat
  demand : Int
  permitted : Int
  reference : Int
  deriving DecidableEq, Repr

/-- The snapshot record (R193). -/
structure Snapshot where
  capture : Nat
  generation : Nat
  h : Nat
  d : Nat
  swingAngle : Nat
  camAngle : Nat
  pitch : Int
  roll : Int
  stale : Bool
  referenced : PerMotion Bool
  channels : PerMotion ChannelView
  sector : Nat
  hoistOut : Int
  hoistIn : Int
  dragOut : Int
  dragIn : Int
  clockwise : Nat
  counterClockwise : Nat
  deriving DecidableEq, Repr

/-- The sixteen event flags (11.6, 12.6). -/
inductive EventFlag
  | halted (m : Motion)
  | openFailed
  | legDone
  | commitDone
  | commitAbandoned
  | holdEffective
  | portChange
  | alarmNew
  | trip
  | resetDone
  | referenced
  | walkStopped
  | snapshotTaken
  deriving DecidableEq, Repr

/-- The state of the Request Port (chapter 11). The flags and the mask are words of 16 bits that the host reads
and writes whole (12.6). -/
structure RequestPort where
  /-- The response buffer (R186). -/
  buffer : Response
  /-- The buffer as it stood before the last response landed, for a short gap (R186). -/
  previous : Response
  /-- The 32 bytes fixed at the last fall of select (R186, R190). -/
  sending : List Byte
  /-- Select is low: a transaction is in progress. -/
  selectLow : Bool
  /-- The transaction in progress overlaps a reset, so that its request is not taken (R187, R190). -/
  untaken : Bool
  flags : Word16
  mask : Word16
  snapshot : Snapshot
  deriving DecidableEq, Repr

/-! ### Lines -/

/-- Input lines whose level a later sample reads again: the encoder fault lines and X0 to X7, as last read. -/
structure Lines where
  fault : PerAxis Bool
  inputs : Byte
  deriving DecidableEq, Repr

/-- The output lines (00_scope, 1.2). -/
structure Pins where
  safeRun : Bool
  horn : Bool
  beacon : Bool
  attn : Bool
  deriving DecidableEq, Repr

/-! ### Internal deliveries -/

/-- What one block hands to another inside an event. Each is performed whole, in the order it was handed on, and
what it hands on in its turn is performed before its successors (assumption log 3). -/
inductive Act
  /-- A sample of a condition, to the Alarm Definitions (R148). -/
  | sample (c : Code) (raw : Bool) (value : Option Int)
  /-- A sample of MAINT_MOTION, judged when it is performed (R93, R122). -/
  | maintSample
  /-- The filtered state of ENCODER_FAULT_x, to the ASU (R149). -/
  | faultState (a : Axis)
  /-- A raise or a clear, to the Alarm Table (R149). -/
  | tableRaise (c : Code)
  | tableClear (c : Code)
  /-- The end of a table change event (R169). -/
  | deliver
  /-- The consequence set, to its receivers (R169). -/
  | receiveChannel (a : Axis)
  | receiveWalk
  | receiveSupervisor
  /-- A channel re-forms its hold source set (R80, R81), the walk its halt source set (R111). -/
  | reformChannel (a : Axis)
  | reformWalk
  /-- A change of state of a channel (R93) or of the walk channel (R122). -/
  | channelChanged (a : Axis)
  | walkChanged
  /-- A channel that has entered PARKED looks at its hold source set (R84). -/
  | parkedLook (a : Axis)
  /-- A test of a pending commit's safe condition (R64). -/
  | commitTest
  /-- An evaluation of HOLD_EFFECTIVE (R92). -/
  | holdEffective
  /-- The trip, to a channel (R89), to the walk (R116), and its event flag (R180). -/
  | tripChannel (a : Axis)
  | tripWalk
  | tripFlag
  /-- A port has left ENABLED, to its channel (R134). -/
  | portLost (m : Motion)
  /-- A good reply, to the owning channel (R132). -/
  | reply (m : Motion) (status : DriveStatus)
  /-- The walk channel enters OPENING once its WALK_START's sample has been delivered: with target STEP (R105), or for a
  recovery by its halt sources (R118). -/
  | beginWalk
  | beginRecovery
  /-- The position of a sample arrival (R1 step 2), and the sampling that follows it (R1 step 4, R25, R150). -/
  | formPosition (a : Axis)
  | envelopeSample
  | nogoSample
  /-- A park arrival (R104), the decision after its count (R110), the end of a halt (R113). -/
  | parkArrival (dir : CamDir)
  | parkDecide (dir : CamDir)
  | haltClose
  deriving DecidableEq, Repr

end Sys2Proof.Machine
end

