-- ==== Sys2Proof/Machine/Wire.lean ====
section
/-!
DEFINITION. Wire formats (chapter 12): field encoding, the CRC-16 of request and response frames (R187), the CRC-8
of drive and inclinometer frames (R198, R199), the layout of responses and drive frames, and the reading of status
frames.
-/

namespace Sys2Proof.Machine

/-! ### Fields (R197) -/

/-- A number as one byte. -/
def byteOf (n : Nat) : Byte := BitVec.ofNat 8 n

/-- The high and the low byte of a 16-bit field, most significant first. -/
def bytes16 (w : Word16) : List Byte := [w.extractLsb' 8 8, w.extractLsb' 0 8]

/-- An unsigned number as a 16-bit field. -/
def nat16 (n : Nat) : List Byte := bytes16 (BitVec.ofNat 16 n)

/-- A signed number as a 16-bit two's complement field. -/
def int16 (v : Int) : List Byte := bytes16 (BitVec.ofInt 16 v)

/-- The four bytes of a 32-bit field, most significant first. -/
def bytes32 (w : BitVec 32) : List Byte :=
  [w.extractLsb' 24 8, w.extractLsb' 16 8, w.extractLsb' 8 8, w.extractLsb' 0 8]

/-- The 16-bit field of two bytes, most significant first. -/
def join16 (hi lo : Byte) : Word16 := hi ++ lo

/-- A row of bits as a byte, bit 0 first. -/
def bitsByte (bs : List Bool) : Byte :=
  match bs with
  | [] => 0#8
  | b :: rest => (bitsByte rest <<< 1) ||| (if b then 1#8 else 0#8)

/-! ### Checks -/

/-- One bit of the CRC-16 with polynomial 0x1021 (R187). -/
def crc16Shift (crc : Word16) : Word16 := if crc.msb then (crc <<< 1) ^^^ 0x1021#16 else crc <<< 1

/-- One byte of the CRC-16, most significant bit first. -/
def crc16Byte (crc : Word16) (b : Byte) : Word16 :=
  let c := crc ^^^ (b.setWidth 16 <<< 8)
  crc16Shift (crc16Shift (crc16Shift (crc16Shift (crc16Shift (crc16Shift (crc16Shift (crc16Shift c)))))))

/-- The CRC-16 of a list of bytes, from 0xFFFF (R187). -/
def crc16 (bytes : List Byte) : Word16 := bytes.foldl crc16Byte 0xFFFF#16

/-- One bit of the CRC-8 with polynomial 0x07 (R198). -/
def crc8Shift (crc : Byte) : Byte := if crc.msb then (crc <<< 1) ^^^ 0x07#8 else crc <<< 1

/-- One byte of the CRC-8, most significant bit first. -/
def crc8Byte (crc : Byte) (b : Byte) : Byte :=
  crc8Shift (crc8Shift (crc8Shift (crc8Shift (crc8Shift (crc8Shift (crc8Shift (crc8Shift (crc ^^^ b))))))))

/-- The CRC-8 of a list of bytes, from 0x00 (R198). -/
def crc8 (bytes : List Byte) : Byte := bytes.foldl crc8Byte 0#8

/-! ### Responses (12.2, 12.5) -/

/-- The code of a status (12.5). -/
def Status.code : Status → Byte
  | .ok => 0x00#8
  | .okClamped => 0x01#8
  | .accepted => 0x02#8
  | .frameError => 0x10#8
  | .unknownRequest => 0x11#8
  | .badLength => 0x12#8
  | .range => 0x20#8
  | .state => 0x21#8
  | .busy => 0x22#8
  | .noSuch => 0x23#8
  | .notConfigured => 0x24#8
  | .notReferenced => 0x25#8
  | .portNotEnabled => 0x26#8
  | .tripActive => 0x27#8
  | .walkActive => 0x28#8
  | .stagedLocked => 0x29#8
  | .commitInvalid => 0x2A#8
  | .alarmLive => 0x2B#8
  | .planFull => 0x2C#8
  | .legActive => 0x2D#8
  | .precondition => 0x2E#8

/-- A list of bytes cut or filled with zeros to a length. -/
def padTo (n : Nat) (bytes : List Byte) : List Byte := bytes.take n ++ List.replicate (n - bytes.length) 0#8

/-- The 32 bytes of a response frame: sync, echoes, status, length, payload, CRC (12.2). -/
def Response.bytes (r : Response) : List Byte :=
  let body := [0x5A#8, r.tag, r.code, r.status.code, byteOf r.payload.length] ++ padTo 25 r.payload
  body ++ bytes16 (crc16 body)

/-- The payload byte of a FRAME_ERROR response (12.2). -/
def frameReasonCode : FrameReason → Byte
  | .short => 1#8
  | .long => 2#8
  | .sync => 3#8
  | .crc => 4#8

/-- The detail code of a COMMIT_INVALID response (12.2). -/
def commitDetailCode : CommitDetail → Nat
  | .windowAlign => 1
  | .curveUnset => 2
  | .curveOrder => 3
  | .sectorRange => 4
  | .curvesCross => 5

/-! ### Drive frames (R198) -/

/-- The kind byte of a drive frame. -/
def FrameKind.code : FrameKind → Byte
  | .reference => 0x01#8
  | .reset => 0x02#8
  | .enquiry => 0x03#8

/-- The 8 bytes of a frame to a drive. -/
def DriveFrame.bytes (f : DriveFrame) : List Byte :=
  let body := [0x3C#8, f.seq, f.kind.code] ++ int16 f.reference ++
    [bitsByte [f.enable, f.brake == .release], 0#8]
  body ++ [crc8 body]

/-- The fields of byte 2 of a status frame; bits 5 to 7 are ignored. -/
def driveStatusOf (b : Byte) : DriveStatus :=
  ⟨b.getLsbD 0, b.getLsbD 1, b.getLsbD 2, b.getLsbD 3, b.getLsbD 4⟩

/-- Byte 2 of a status frame from its fields, as PORT_GET reports them (12.12). -/
def DriveStatus.byte (d : DriveStatus) : Byte := bitsByte [d.ready, d.fault, d.atRest, d.brakeSet, d.brakeOpen]

/-- A status frame as received: its byte count, sync and CRC judged together, and its echo and fields. -/
structure StatusFrame where
  echo : Byte
  status : DriveStatus
  deriving DecidableEq, Repr

/-- The reading of a received status frame; none is a frame with a bad CRC, which a wrong byte count or sync counts
as too (R198). -/
def readStatusFrame (bytes : List Byte) : Option StatusFrame :=
  match bytes with
  | [b0, b1, b2, b3, b4, b5, b6, b7] =>
    if b0 = 0xC3#8 ∧ crc8 [b0, b1, b2, b3, b4, b5, b6] = b7 then some ⟨b1, driveStatusOf b2⟩ else none
  | _ => none

/-- The pitch and roll of a whole inclinometer frame whose CRC matches (R199). -/
def readTiltFrame (bytes : List Byte) : Option (Int × Int) :=
  match bytes with
  | [b0, b1, b2, b3, b4, b5] =>
    if crc8 [b0, b1, b2, b3, b4] = b5 then some ((join16 b1 b2).toInt, (join16 b3 b4).toInt) else none
  | _ => none

end Sys2Proof.Machine
end

