-- ==== Sys2Proof/Config.lean ====
section
/-!
DEFINITION. What the manual fixes for every SGH-740: the constants that are not settings. No rule of the
manual leaves a value to an implementation, so there is no free value here.
-/

namespace Sys2Proof.Config

/-- The greatest rope payout, in ru (R4, 00_scope 3.1). -/
def maxPayout : Nat := 20000

/-- Micrometres of rope to one rope unit (R3). -/
def microPerRopeUnit : Int := 10000

/-- The greatest magnitude of a carried alarm value (R4, R153). -/
def maxValue : Int := 32767

/-- The greatest magnitude of pitch and roll, in 0.01 degree (R14). -/
def maxTilt : Int := 3000

/-- The hoist room a committed sector keeps between its curves, in ru (R62, CURVES_CROSS). -/
def curveGap : Int := 50

/-- The period of the external input sample, in ms (R151). -/
def externalPeriod : Nat := 10

/-- The time a presence line must hold a new level, in ms (R127). -/
def presenceHold : Nat := 20

/-- The time reset frames are sent before the first enquiry, in ms (R129). -/
def resetFramesTime : Nat := 50

/-- The enquiries sent before a reset sequence fails (R129). -/
def maxEnquiries : Nat := 3

/-- The consecutive misses that disable a port (R133). -/
def maxMisses : Nat := 3

/-- The legs the walk plan holds at most (R99). -/
def maxLegs : Nat := 8

/-- The ordinary records the alarm table holds at most (R158). -/
def maxRecords : Nat := 32

/-- The codes one list reply carries at most (R171). -/
def listPiece : Nat := 12

/-- The greatest raise sequence number (R159). -/
def maxSequence : Nat := 4294967295

/-- The greatest recurrence count (R160). -/
def maxRecurrence : Nat := 255

/-- Milliseconds in a minute and in a second, for shelve times and COMMIT_TIMEOUT. -/
def minuteMs : Nat := 60000
def secondMs : Nat := 1000

/-- The time within which a new response lands in the buffer, in microseconds (R186). -/
def landingMicros : Nat := 50

/-- The shortest low of RESET_N that begins a pin reset, in microseconds (R184). -/
def pinResetMicros : Nat := 10

/-- A gap on the inclinometer line longer than this, in microseconds, ends a frame (R199). -/
def frameGapMicros : Nat := 5000

/-- The bound on the internal deliveries of one command. Laws/Cascade.lean gives every delivery a weight and
Obligations.DeliveriesComeToAnEnd says that no command needs as many as this (assumption log 4). -/
def cascadeFuel : Nat := 4096

end Sys2Proof.Config
end

