-- ==== Sys2Proof/Machine/Defaults.lean ====
section
/-!
DEFINITION. The settings list (12.10), the alarm code space (R142) with its default definitions (R145, R151,
R152), and the value every record holds after a reset.
-/

namespace Sys2Proof.Machine

/-! ### Settings -/

/-- The id of a setting (12.10). -/
def Setting.id : Setting → Nat
  | .axisPeriod => 1
  | .hoistScale => 2
  | .dragScale => 3
  | .swingCpt => 4
  | .swingIndexAngle => 5
  | .camFilter => 6
  | .tiltStale => 7
  | .rollLimit => 8
  | .pitchLimit => 9
  | .taperH => 16
  | .taperD => 17
  | .creepH => 18
  | .creepD => 19
  | .creepS => 20
  | .lookaheadD => 21
  | .accelStep .hoist => 32
  | .accelStep .drag => 33
  | .accelStep .swing => 34
  | .accelStep .walk => 35
  | .decelStep .hoist => 36
  | .decelStep .drag => 37
  | .decelStep .swing => 38
  | .decelStep .walk => 39
  | .demandTimeout => 40
  | .brakeTimeout => 48
  | .linkPeriod .hoist => 49
  | .linkPeriod .drag => 50
  | .linkPeriod .swing => 51
  | .linkPeriod .walk => 52
  | .walkCreep => 64
  | .carryDmin => 65
  | .carryDmax => 66
  | .carryHmin => 67
  | .carryHmax => 68
  | .commitTimeout => 80
  | .linkTimeout => 96

/-- The settings in the order of their ids (12.10). -/
def Setting.all : List Setting :=
  ([.axisPeriod, .hoistScale, .dragScale, .swingCpt, .swingIndexAngle, .camFilter, .tiltStale, .rollLimit,
    .pitchLimit, .taperH, .taperD, .creepH, .creepD, .creepS, .lookaheadD] : List Setting) ++
  ([.accelStep .hoist, .accelStep .drag, .accelStep .swing, .accelStep .walk, .decelStep .hoist,
    .decelStep .drag, .decelStep .swing, .decelStep .walk, .demandTimeout, .brakeTimeout] : List Setting) ++
  ([.linkPeriod .hoist, .linkPeriod .drag, .linkPeriod .swing, .linkPeriod .walk, .walkCreep, .carryDmin,
    .carryDmax, .carryHmin, .carryHmax, .commitTimeout, .linkTimeout] : List Setting)

/-- The setting an id names; none for an id not in the list (12.10). -/
def Setting.ofId (n : Nat) : Option Setting := Setting.all.find? fun k => k.id == n

/-- A row of the settings list: range and default (12.10). -/
structure SettingRow where
  lo : Nat
  hi : Nat
  dflt : Nat
  deriving DecidableEq, Repr

/-- The range and default of a setting (12.10, R17, R51, R67, R95, R123, R141, R183). -/
def Setting.row : Setting → SettingRow
  | .axisPeriod => ⟨1, 20, 5⟩
  | .hoistScale => ⟨1, 65535, 1000⟩
  | .dragScale => ⟨1, 65535, 1000⟩
  | .swingCpt => ⟨1024, 65535, 16384⟩
  | .swingIndexAngle => ⟨0, 4095, 0⟩
  | .camFilter => ⟨0, 3, 2⟩
  | .tiltStale => ⟨100, 2000, 500⟩
  | .rollLimit => ⟨50, 1500, 300⟩
  | .pitchLimit => ⟨50, 1500, 500⟩
  | .taperH => ⟨1, 2000, 300⟩
  | .taperD => ⟨1, 2000, 300⟩
  | .creepH => ⟨0, 300, 50⟩
  | .creepD => ⟨0, 300, 50⟩
  | .creepS => ⟨0, 300, 30⟩
  | .lookaheadD => ⟨0, 1000, 100⟩
  | .accelStep _ => ⟨1, 1000, 20⟩
  | .decelStep _ => ⟨1, 1000, 50⟩
  | .demandTimeout => ⟨20, 1000, 200⟩
  | .brakeTimeout => ⟨200, 5000, 2000⟩
  | .linkPeriod _ => ⟨2, 20, 10⟩
  | .walkCreep => ⟨0, 300, 100⟩
  | .carryDmin => ⟨0, 20000, 1000⟩
  | .carryDmax => ⟨0, 20000, 5000⟩
  | .carryHmin => ⟨0, 20000, 0⟩
  | .carryHmax => ⟨0, 20000, 20000⟩
  | .commitTimeout => ⟨1, 120, 30⟩
  | .linkTimeout => ⟨100, 5000, 500⟩

/-- The place of a setting in the settings store. -/
def Setting.idx : Setting → Fin 36
  | .axisPeriod => ⟨0, by decide⟩
  | .hoistScale => ⟨1, by decide⟩
  | .dragScale => ⟨2, by decide⟩
  | .swingCpt => ⟨3, by decide⟩
  | .swingIndexAngle => ⟨4, by decide⟩
  | .camFilter => ⟨5, by decide⟩
  | .tiltStale => ⟨6, by decide⟩
  | .rollLimit => ⟨7, by decide⟩
  | .pitchLimit => ⟨8, by decide⟩
  | .taperH => ⟨9, by decide⟩
  | .taperD => ⟨10, by decide⟩
  | .creepH => ⟨11, by decide⟩
  | .creepD => ⟨12, by decide⟩
  | .creepS => ⟨13, by decide⟩
  | .lookaheadD => ⟨14, by decide⟩
  | .accelStep .hoist => ⟨15, by decide⟩
  | .accelStep .drag => ⟨16, by decide⟩
  | .accelStep .swing => ⟨17, by decide⟩
  | .accelStep .walk => ⟨18, by decide⟩
  | .decelStep .hoist => ⟨19, by decide⟩
  | .decelStep .drag => ⟨20, by decide⟩
  | .decelStep .swing => ⟨21, by decide⟩
  | .decelStep .walk => ⟨22, by decide⟩
  | .demandTimeout => ⟨23, by decide⟩
  | .brakeTimeout => ⟨24, by decide⟩
  | .linkPeriod .hoist => ⟨25, by decide⟩
  | .linkPeriod .drag => ⟨26, by decide⟩
  | .linkPeriod .swing => ⟨27, by decide⟩
  | .linkPeriod .walk => ⟨28, by decide⟩
  | .walkCreep => ⟨29, by decide⟩
  | .carryDmin => ⟨30, by decide⟩
  | .carryDmax => ⟨31, by decide⟩
  | .carryHmin => ⟨32, by decide⟩
  | .carryHmax => ⟨33, by decide⟩
  | .commitTimeout => ⟨34, by decide⟩
  | .linkTimeout => ⟨35, by decide⟩

/-- Every setting at its default (R195). -/
def defaultSettings : Vector Nat 36 := ⟨(Setting.all.map fun k => k.row.dflt).toArray, rfl⟩

/-! ### Alarm codes -/

/-- The number of a code (R142, R145). -/
def Code.num : Code → Nat
  | .linkLost => 1
  | .demandLost .hoist => 2
  | .demandLost .drag => 3
  | .demandLost .swing => 4
  | .driveLost .hoist => 5
  | .driveLost .drag => 6
  | .driveLost .swing => 7
  | .driveLost .walk => 8
  | .driveFault .hoist => 9
  | .driveFault .drag => 10
  | .driveFault .swing => 11
  | .driveFault .walk => 12
  | .brakeMismatch => 13
  | .envelopeExcursion => 14
  | .swingInNogo => 15
  | .hoistRange => 16
  | .dragRange => 17
  | .tubRoll => 18
  | .tubPitch => 19
  | .camSync => 20
  | .walkPrecondition => 21
  | .inclinometerStale => 22
  | .encoderFault .hoist => 23
  | .encoderFault .drag => 24
  | .encoderFault .swing => 25
  | .maintMotion => 26
  | .tableOverflow => 27
  | .input i => 32 + i.val
  | .host i => 40 + i.val

/-- The internal codes 1 to 13 (R145). -/
def Code.lowCodes : List Code :=
  [.linkLost, .demandLost .hoist, .demandLost .drag, .demandLost .swing, .driveLost .hoist, .driveLost .drag,
    .driveLost .swing, .driveLost .walk, .driveFault .hoist, .driveFault .drag, .driveFault .swing,
    .driveFault .walk, .brakeMismatch]

/-- The internal codes 14 to 27 (R145). -/
def Code.highCodes : List Code :=
  [.envelopeExcursion, .swingInNogo, .hoistRange, .dragRange, .tubRoll, .tubPitch, .camSync,
    .walkPrecondition, .inclinometerStale, .encoderFault .hoist, .encoderFault .drag, .encoderFault .swing,
    .maintMotion, .tableOverflow]

/-- The external codes (R151). -/
def Code.inputCodes : List Code :=
  [.input 0, .input 1, .input 2, .input 3, .input 4, .input 5, .input 6, .input 7]

/-- The host codes (R152). -/
def Code.hostCodes : List Code :=
  [.host 0, .host 1, .host 2, .host 3, .host 4, .host 5, .host 6, .host 7, .host 8, .host 9, .host 10,
    .host 11, .host 12, .host 13, .host 14, .host 15, .host 16, .host 17, .host 18, .host 19, .host 20, .host 21,
    .host 22, .host 23]

/-- The codes that name a definition, lowest number first (R142). -/
def Code.all : List Code :=
  Code.lowCodes ++ Code.highCodes ++ Code.inputCodes ++ Code.hostCodes

/-- The code a number names: 1 to 27, 32 to 39 and 40 to 63; none for every other number (R142). -/
def Code.ofNum (n : Nat) : Option Code := Code.all.find? fun c => c.num == n

/-- The place of a code's definition in the store of 59 definitions. -/
def Code.idx : Code → Fin 59
  | .linkLost => ⟨0, by decide⟩
  | .demandLost .hoist => ⟨1, by decide⟩
  | .demandLost .drag => ⟨2, by decide⟩
  | .demandLost .swing => ⟨3, by decide⟩
  | .driveLost .hoist => ⟨4, by decide⟩
  | .driveLost .drag => ⟨5, by decide⟩
  | .driveLost .swing => ⟨6, by decide⟩
  | .driveLost .walk => ⟨7, by decide⟩
  | .driveFault .hoist => ⟨8, by decide⟩
  | .driveFault .drag => ⟨9, by decide⟩
  | .driveFault .swing => ⟨10, by decide⟩
  | .driveFault .walk => ⟨11, by decide⟩
  | .brakeMismatch => ⟨12, by decide⟩
  | .envelopeExcursion => ⟨13, by decide⟩
  | .swingInNogo => ⟨14, by decide⟩
  | .hoistRange => ⟨15, by decide⟩
  | .dragRange => ⟨16, by decide⟩
  | .tubRoll => ⟨17, by decide⟩
  | .tubPitch => ⟨18, by decide⟩
  | .camSync => ⟨19, by decide⟩
  | .walkPrecondition => ⟨20, by decide⟩
  | .inclinometerStale => ⟨21, by decide⟩
  | .encoderFault .hoist => ⟨22, by decide⟩
  | .encoderFault .drag => ⟨23, by decide⟩
  | .encoderFault .swing => ⟨24, by decide⟩
  | .maintMotion => ⟨25, by decide⟩
  | .tableOverflow => ⟨26, by decide⟩
  | .input i => ⟨27 + i.val, by omega⟩
  | .host i => ⟨35 + i.val, by omega⟩

/-- The empty scope, and the scopes HDSW, HDS and of one channel (R145). -/
def scopeNone : PerMotion Bool := ⟨false, false, false, false⟩
def scopeAll : PerMotion Bool := ⟨true, true, true, true⟩
def scopeHDS : PerMotion Bool := ⟨true, true, true, false⟩
def scopeOf (m : Motion) : PerMotion Bool := scopeNone.set m true

/-- The class floor of a code (R145, R151, R152). -/
def Code.floor : Code → AlarmClass
  | .linkLost => .hold
  | .demandLost _ => .note
  | .driveLost _ => .hold
  | .driveFault _ => .hold
  | .brakeMismatch => .stop
  | .envelopeExcursion => .note
  | .swingInNogo => .note
  | .hoistRange => .hold
  | .dragRange => .hold
  | .tubRoll => .hold
  | .tubPitch => .hold
  | .camSync => .hold
  | .walkPrecondition => .note
  | .inclinometerStale => .hold
  | .encoderFault _ => .hold
  | .maintMotion => .note
  | .tableOverflow => .stop
  | .input _ => .note
  | .host _ => .note

/-- The default class of a code: its floor, but DERATE for ENVELOPE_EXCURSION (R145). -/
def Code.defaultClass : Code → AlarmClass
  | .envelopeExcursion => .derate
  | c => c.floor

/-- The default scope of a code (R145, R151, R152). -/
def Code.defaultScope : Code → PerMotion Bool
  | .linkLost => scopeAll
  | .demandLost a => scopeOf a.motion
  | .driveLost m => scopeOf m
  | .driveFault m => scopeOf m
  | .brakeMismatch => scopeAll
  | .envelopeExcursion => scopeHDS
  | .swingInNogo => scopeOf .swing
  | .hoistRange => scopeOf .hoist
  | .dragRange => scopeOf .drag
  | .tubRoll => scopeOf .walk
  | .tubPitch => scopeOf .walk
  | .camSync => scopeOf .walk
  | .walkPrecondition => scopeOf .walk
  | .inclinometerStale => scopeOf .walk
  | .encoderFault _ => scopeHDS
  | .maintMotion => scopeNone
  | .tableOverflow => scopeAll
  | .input _ => scopeNone
  | .host _ => scopeNone

/-- The default persistence of a code (R145, R151, R152). -/
def Code.defaultPersistence : Code → Nat
  | .envelopeExcursion => 2
  | .tubRoll => 3
  | .tubPitch => 3
  | .encoderFault _ => 2
  | .input _ => 3
  | _ => 0

/-- Whether DEFINE may set the persistence of a code: codes 14 to 20, 22 to 25 and the external codes (R145, R146). -/
def Code.persistenceSettable : Code → Bool
  | .envelopeExcursion => true
  | .swingInNogo => true
  | .hoistRange => true
  | .dragRange => true
  | .tubRoll => true
  | .tubPitch => true
  | .camSync => true
  | .inclinometerStale => true
  | .encoderFault _ => true
  | .input _ => true
  | _ => false

/-- The default derate cap of a code (R145, R151, R152). -/
def Code.defaultCap : Code → Nat
  | .envelopeExcursion => 500
  | _ => 1000

/-- The polarity field after reset, present for the external codes (R156). -/
def Code.defaultPolarity : Code → Option Polarity
  | .input _ => some .activeHigh
  | _ => none

/-- The host raw value after reset, present for the host codes (R152, R156). -/
def Code.defaultRaw : Code → Option Bool
  | .host _ => some false
  | _ => none

/-- The definition of a code after every reset (R156). -/
def Code.defaultDefinition (c : Code) : Definition where
  cls := c.defaultClass
  floor := c.floor
  scope := c.defaultScope
  persistence := c.defaultPersistence
  cap := c.defaultCap
  polarity := c.defaultPolarity
  active := false
  run := 0
  raiseValue := none
  pendingMark := false
  hostRaw := c.defaultRaw

/-- The 59 definitions after every reset (R156). -/
def defaultDefinitions : Vector Definition 59 := ⟨(Code.all.map Code.defaultDefinition).toArray, rfl⟩

/-! ### Records after reset -/

/-- A timer started at a period in ms. -/
def Timer.start (ms : Nat) : Timer := ⟨ms, ms⟩

/-- A bank's reset contents (R52). -/
def Bank.blank : Bank where
  windows := Vector.replicate 16 ⟨false, 0#12, 0#12, 0, false, false⟩
  sectors := Vector.replicate 9 ⟨0, 0, 0, 0, 0, 0, 0⟩
  curves := Vector.replicate 16 ⟨0, Vector.replicate 16 ⟨0, 0⟩⟩
  brake := 0

/-- The Configuration Banks after reset (R52, R66). -/
def ConfigBanks.blank : ConfigBanks := ⟨Bank.blank, Bank.blank, 0, none, none⟩

/-- The ASU after reset, its timers started at the default periods (R18). No inclinometer frame is in progress: R18 and R199
give none of its bytes a reset value (DESIGN CHOICE, assumption log 30). -/
def AxisUnit.blank : AxisUnit where
  hoist := ⟨0#32, 0#32, 0, 0, false⟩
  drag := ⟨0#32, 0#32, 0, 0, false⟩
  swing := ⟨0, 0, 0#12, false⟩
  teeth := 0#6
  camReferenced := false
  oldFilters := []
  pitch := 0
  roll := 0
  stale := true
  sampleTimers := ⟨some (Timer.start 5), some (Timer.start 5), some (Timer.start 5)⟩
  staleTimer := some (Timer.start 500)
  tiltFrame := []

/-- A hoist, drag or swing channel after reset (R69): with the mode at FOLLOW and the axes unreferenced, the
hold source set holds UNREFERENCED. -/
def Channel.blank : Channel where
  state := .closed
  mode := .follow
  demand := 0
  expired := false
  demandTimer := none
  permitted := 0
  reference := 0
  enable := false
  brake := .apply
  holds := ⟨false, false, false, true⟩
  openTimer := none
  restTimer := none
  lastCause := none
  derate := 1000
  alarmHold := false

/-- The walk channel after reset (R97). -/
def WalkChannel.blank : WalkChannel where
  state := .idle
  target := none
  run := none
  closing := none
  demand := 0
  demandTimer := none
  permitted := 0
  reference := 0
  enable := false
  brake := .apply
  halts := ⟨false, false⟩
  openTimer := none
  restTimer := none
  lastCause := none
  derate := 1000
  alarmHold := false

/-- The cleared brake watch: command SET, confirmed, untimed and not in breach (R125, R134). -/
def BrakeWatch.cleared : BrakeWatch := ⟨.apply, true, false, false, none⟩

/-- A port after reset, before its presence line is read (R125). -/
def Port.blank : Port where
  state := .detached
  sequence := 0#8
  outstanding := none
  misses := 0
  lastStatus := none
  lastCause := none
  linkTimer := none
  phase := none
  watch := BrakeWatch.cleared
  sent := none

/-- The consequence set of an empty table (R169). -/
def Consequence.empty : Consequence := ⟨⟨1000, 1000, 1000, 1000⟩, scopeNone, false⟩

/-- The alarm table after reset (R176). -/
def AlarmTable.blank : AlarmTable := ⟨[], none, none, false, 0, Consequence.empty⟩

/-- The reset response: status OK, tag echo 0, code echo 0, length 0 (R190). -/
def Response.reset : Response := ⟨0#8, 0#8, .ok, []⟩

/-- The snapshot record after reset: all 0 (R193). -/
def Snapshot.blank : Snapshot where
  capture := 0
  generation := 0
  h := 0
  d := 0
  swingAngle := 0
  camAngle := 0
  pitch := 0
  roll := 0
  stale := false
  referenced := scopeNone
  channels := ⟨⟨0, 0, 0, 0⟩, ⟨0, 0, 0, 0⟩, ⟨0, 0, 0, 0⟩, ⟨0, 0, 0, 0⟩⟩
  sector := 0
  hoistOut := 0
  hoistIn := 0
  dragOut := 0
  dragIn := 0
  clockwise := 0
  counterClockwise := 0

/-- Thirty-two bytes of 0: what is clocked out in a transaction whose select falls during a reset (R190). -/
def zeroFrame : List Byte := List.replicate 32 0#8

/-- The request port after reset: RESET_DONE set (bit 12, 12.6), no flag masked, no snapshot taken (R190 to R193). -/
def RequestPort.blank : RequestPort where
  buffer := Response.reset
  previous := Response.reset
  sending := zeroFrame
  selectLow := false
  untaken := false
  flags := 0x1000#16
  mask := 0#16
  snapshot := Snapshot.blank

end Sys2Proof.Machine
end

