-- ==== Sys2Proof/Machine/State.lean ====
section
/-!
DEFINITION. The state of the SGH-740: what each block of 00_scope 1.3 owns, the settings, the lines, whether a
reset is in progress, and the queue of commands that are waiting.
-/

namespace Sys2Proof.Machine

/-- The machine. Every field is plain data. -/
structure State where
  /-- Axis Sensing Unit (chapter 1). -/
  asu : AxisUnit
  /-- Configuration Banks (chapter 4). -/
  banks : ConfigBanks
  /-- Motion Channels: the three channel records (R69). -/
  channels : PerAxis Channel
  /-- The HOLD_ALL flag (R91). -/
  holdAll : Bool
  /-- HOLD_EFFECTIVE as last evaluated (R92). -/
  holdEffective : Bool
  /-- Walk Sequencer: the walk channel record (R97). -/
  walk : WalkChannel
  /-- The walk plan, head leg first (R99). -/
  plan : List Leg
  /-- The next-id counter (R99). -/
  nextLegId : Nat
  /-- Drive Ports P0 to P3 (R125). -/
  ports : PerMotion Port
  /-- Alarm Definitions (R143). -/
  defs : Vector Definition 59
  /-- The external input sample timer (R151). -/
  inputTimer : Option Timer
  /-- Alarm Table (chapter 9). -/
  table : AlarmTable
  /-- Supervisor (R177). -/
  sup : Supervisor
  /-- Request Port (chapter 11). -/
  rport : RequestPort
  /-- The settings (12.10). -/
  settings : Vector Nat 36
  /-- Input lines as last read. -/
  lines : Lines
  /-- Output lines. -/
  pins : Pins
  /-- The reset in progress, if any, with its cause (R184). -/
  resetting : Option ResetCause
  /-- The commands waiting, first in, first out. -/
  pending : List Instr
  deriving DecidableEq, Repr

/-- The reasons a command could stop the machine with a fault. There is none: the manual gives every command an
effect in every state, if only a refusal status in its response, so no meaning faults and this type has no
constructor. -/
inductive Fault
  deriving DecidableEq, Repr

/-- The reasons a command could be refused by the model. -/
inductive Refusal
  /-- Raised by exec alone, for a command that has no meaning yet, by its mnemonic: safe, the model stops. No arm
  of exec raises it. -/
  | notModelled (mnemonic : String)
  deriving DecidableEq, Repr

/-- The machine right after reset: the end of a power-on reset at which no presence line is active and the PARK
switch is open (R18, R52, R96, R124, R125, R156, R176, R177, R185, R190). The lines at that moment are the
model's choice (assumption log 2). -/
def State.reset : State where
  asu := AxisUnit.blank
  banks := ConfigBanks.blank
  channels := ⟨Channel.blank, Channel.blank, Channel.blank⟩
  holdAll := false
  holdEffective := false
  walk := WalkChannel.blank
  plan := []
  nextLegId := 1
  ports := ⟨Port.blank, Port.blank, Port.blank, Port.blank⟩
  defs := defaultDefinitions
  inputTimer := some (Timer.start Config.externalPeriod)
  table := AlarmTable.blank
  sup := ⟨.start, .power, false, false, some (Timer.start 500)⟩
  rport := RequestPort.blank
  settings := defaultSettings
  lines := ⟨⟨false, false, false⟩, 0#8⟩
  pins := ⟨false, false, false, true⟩
  resetting := none
  pending := []

end Sys2Proof.Machine
end

