-- ==== Sys2Proof/Machine/Ops.lean ====
section
/-!
DEFINITION. The named operations over the state: one setter for each record a block owns, the settings, the
definitions, clamping, and the reading of the positions other blocks use (R30).
-/

namespace Sys2Proof.Machine

/-! ### Clamping (00_scope, 3.4) -/

/-- A number replaced by the nearest bound of its range. -/
def clampNat (lo hi v : Nat) : Nat := if v < lo then lo else if hi < v then hi else v

/-- A signed number replaced by the nearest bound of its range. -/
def clampInt (lo hi v : Int) : Int := if v < lo then lo else if hi < v then hi else v

/-- A value carried by a sample, clamped to -32767 to +32767 (R4, R153). -/
def clampValue (v : Int) : Int := clampInt (-Config.maxValue) Config.maxValue v

/-- A demand in permille, clamped to -1000 to +1000 (R75). -/
def clampDemand (v : Int) : Int := clampInt (-1000) 1000 v

/-! ### Setters -/

/-- The state with the ASU's replaced. -/
def State.setAsu (s : State) (x : AxisUnit) : State := { s with asu := x }

/-- The state with the Configuration Banks' replaced. -/
def State.setBanks (s : State) (x : ConfigBanks) : State := { s with banks := x }

/-- The state with one channel record replaced. -/
def State.setChannel (s : State) (a : Axis) (x : Channel) : State := { s with channels := s.channels.set a x }

/-- The state with the walk channel record replaced. -/
def State.setWalk (s : State) (x : WalkChannel) : State := { s with walk := x }

/-- The state with the walk plan replaced. -/
def State.setPlan (s : State) (x : List Leg) : State := { s with plan := x }

/-- The state with one port record replaced. -/
def State.setPort (s : State) (m : Motion) (x : Port) : State := { s with ports := s.ports.set m x }

/-- The state with one alarm definition replaced. -/
def State.setDef (s : State) (c : Code) (x : Definition) : State := { s with defs := s.defs.set c.idx x }

/-- The state with the Alarm Table replaced. -/
def State.setTable (s : State) (x : AlarmTable) : State := { s with table := x }

/-- The state with the Supervisor's replaced. -/
def State.setSup (s : State) (x : Supervisor) : State := { s with sup := x }

/-- The state with the Request Port's replaced. -/
def State.setRport (s : State) (x : RequestPort) : State := { s with rport := x }

/-- The state with one setting written. -/
def State.setSetting (s : State) (k : Setting) (v : Nat) : State := { s with settings := s.settings.set k.idx v }

/-- The state with the output lines replaced. -/
def State.setPins (s : State) (x : Pins) : State := { s with pins := x }

/-! ### Readings -/

/-- The present value of a setting. -/
def State.cfg (s : State) (k : Setting) : Nat := s.settings[k.idx]

/-- The definition of a code. -/
def State.definition (s : State) (c : Code) : Definition := s.defs[c.idx]

/-- A rope axis by its name. -/
def State.rope (s : State) : Rope → RopeAxis
  | .hoist => s.asu.hoist
  | .drag => s.asu.drag

/-- The state with one rope axis replaced. -/
def State.setRope (s : State) (r : Rope) (x : RopeAxis) : State :=
  match r with
  | .hoist => s.setAsu { s.asu with hoist := x }
  | .drag => s.setAsu { s.asu with drag := x }

/-- The hoist payout, the drag payout and the swing angle as the ASU holds them, referenced or not (R30). -/
def State.payoutH (s : State) : Nat := s.asu.hoist.payout
def State.payoutD (s : State) : Nat := s.asu.drag.payout
def State.angle (s : State) : Angle := s.asu.swing.angle

/-- Whether an axis is referenced. -/
def State.isReferenced (s : State) : Axis → Bool
  | .hoist => s.asu.hoist.referenced
  | .drag => s.asu.drag.referenced
  | .swing => s.asu.swing.referenced

/-- Whether the hoist, drag and swing axes are all referenced (R16, R71). -/
def State.allReferenced (s : State) : Bool :=
  s.asu.hoist.referenced && s.asu.drag.referenced && s.asu.swing.referenced

/-- The cam is at park: referenced, with teeth 0 (R11, R104). -/
def State.atPark (s : State) : Bool := s.asu.camReferenced && s.asu.teeth == 0#6

/-- The owning channel of a port is CLOSED, which for P3 means the walk channel is IDLE (chapter 7). -/
def State.channelClosed (s : State) : Motion → Bool
  | .hoist => s.channels.hoist.state == .closed
  | .drag => s.channels.drag.state == .closed
  | .swing => s.channels.swing.state == .closed
  | .walk => s.walk.state == .idle

/-- A channel state that is CLOSED or PARKED (R63, R92, R105 check 4). -/
def ChannelState.isResting : ChannelState → Bool
  | .closed => true
  | .parked => true
  | _ => false

/-- A channel state in which the channel is open (R70). -/
def ChannelState.isOpen : ChannelState → Bool
  | .opening => true
  | .running => true
  | .parking => true
  | .parked => true
  | _ => false

/-- The HOIST, DRAG and SWING channels are each CLOSED or PARKED. -/
def State.allResting (s : State) : Bool :=
  s.channels.hoist.state.isResting && s.channels.drag.state.isResting && s.channels.swing.state.isResting

/-- The walk states that are a WALK hold source (R80). -/
def WalkState.holdsChannels : WalkState → Bool
  | .stepping => true
  | .halting => true
  | .stopped => true
  | _ => false

/-- A timer started at BRAKE_TIMEOUT (R73, R82, R107, R115, R137). -/
def State.brakeTimer (s : State) : Timer := Timer.start (s.cfg .brakeTimeout)

/-- A timer started at DEMAND_TIMEOUT (R76, R121). -/
def State.demandTimer (s : State) : Timer := Timer.start (s.cfg .demandTimeout)

/-- No command has its effect while a reset is in progress, but those of the reset itself and a fall of select
(R184). -/
def State.inReset (s : State) : Bool := s.resetting.isSome

end Sys2Proof.Machine
end

