-- ==== Sys2Proof/Machine/Operands.lean ====
section
/-!
DEFINITION. The operand forms of the requests: the enumerated values of 12.4 and the sets and marks of 12.3, each
decoded from its field width (R197). A value that names nothing gives none; the owning rule refuses it.
-/

namespace Sys2Proof.Machine

/-- The bit of a byte. -/
def byteBit (b : Byte) (i : Nat) : Bool := b.getLsbD i

/-- Channel codes (12.4): HOIST 0, DRAG 1, SWING 2, WALK 3. -/
def motionOf (b : Byte) : Option Motion :=
  match b.toNat with
  | 0 => some .hoist
  | 1 => some .drag
  | 2 => some .swing
  | 3 => some .walk
  | _ => none

/-- The code of a channel or port (12.4). -/
def motionCode : Motion → Nat
  | .hoist => 0
  | .drag => 1
  | .swing => 2
  | .walk => 3

/-- The MCH channel a motion names; none for WALK. -/
def axisOfMotion : Motion → Option Axis
  | .hoist => some .hoist
  | .drag => some .drag
  | .swing => some .swing
  | .walk => none

/-- The rope axis a channel code names; none for SWING, WALK and every other value (R5). -/
def ropeOf (b : Byte) : Option Rope :=
  match b.toNat with
  | 0 => some .hoist
  | 1 => some .drag
  | _ => none

/-- Mode codes (12.4): FOLLOW 0, MAINT 1. -/
def modeOf (b : Byte) : Option Mode :=
  match b.toNat with
  | 0 => some .follow
  | 1 => some .maint
  | _ => none

/-- Bank codes (12.4): STAGED 0, ACTIVE 1. -/
def bankOf (b : Byte) : Option BankName :=
  match b.toNat with
  | 0 => some .staged
  | 1 => some .active
  | _ => none

/-- Class codes (12.4): NOTE 0, DERATE 1, HOLD 2, STOP 3. -/
def classOf (b : Byte) : Option AlarmClass :=
  match b.toNat with
  | 0 => some .note
  | 1 => some .derate
  | 2 => some .hold
  | 3 => some .stop
  | _ => none

/-- Polarity codes (12.4): ACTIVE_HIGH 0, ACTIVE_LOW 1. -/
def polarityOf (b : Byte) : Option Polarity :=
  match b.toNat with
  | 0 => some .activeHigh
  | 1 => some .activeLow
  | _ => none

/-- Scope bits (12.4): H bit 0, D bit 1, S bit 2, W bit 3; the others are ignored (R197). -/
def scopeOfByte (b : Byte) : PerMotion Bool := ⟨byteBit b 0, byteBit b 1, byteBit b 2, byteBit b 3⟩

/-- The code a request byte names (R142). -/
def codeOf (b : Byte) : Option Code := Code.ofNum b.toNat

/-- The host code a request byte names, 40 to 63 (R153). -/
def hostCodeOf (b : Byte) : Option (Fin 24) :=
  if h : 40 ≤ b.toNat ∧ b.toNat ≤ 63 then some ⟨b.toNat - 40, by omega⟩ else none

/-- A window or curve number, 0 to 15. -/
def sixteenOf (b : Byte) : Option (Fin 16) := if h : b.toNat < 16 then some ⟨b.toNat, h⟩ else none

/-- A sector number, 0 to 8, with 8 for SRD (R53, R55). -/
def sectorOf (b : Byte) : Option (Fin 9) := if h : b.toNat < 9 then some ⟨b.toNat, h⟩ else none

/-- A window's sector index, 0 to 7 (R54). -/
def sectorIndexOf (b : Byte) : Option (Fin 8) := if h : b.toNat < 8 then some ⟨b.toNat, h⟩ else none

/-- An angle argument, 0 to 4095 (R32, R54). -/
def angleOf (w : Word16) : Option Angle := if w.toNat ≤ 4095 then some (w.setWidth 12) else none

/-- A payout argument, 0 to 20000 (R5, R55, R57). -/
def payoutOf (w : Word16) : Option Nat := if w.toNat ≤ Config.maxPayout then some w.toNat else none

/-- The number of points a STAGE_CURVE_POINTS length gives: 6, 10, 14, 18, 22 or 26 for one to six (12.3). -/
def pointCount (len : Byte) : Option Nat :=
  match len.toNat with
  | 6 => some 1
  | 10 => some 2
  | 14 => some 3
  | 18 => some 4
  | 22 => some 5
  | 26 => some 6
  | _ => none

end Sys2Proof.Machine
end

