-- ==== Sys2Proof/WellFormed.lean ====
section
/-!
DEFINITION. Well-formed commands: what an event that carries a code must name. Every request is well formed whatever its
operands, since its owner judges them (R188, R197).
-/

namespace Sys2Proof

/-- The request codes (12.3). -/
def requestCodes : List Byte :=
  [0x01#8, 0x02#8, 0x03#8, 0x04#8, 0x05#8, 0x06#8, 0x07#8, 0x08#8, 0x09#8, 0x10#8, 0x11#8, 0x12#8, 0x13#8, 0x14#8,
    0x15#8, 0x16#8, 0x18#8, 0x19#8, 0x1A#8] ++
  [0x20#8, 0x21#8, 0x22#8, 0x23#8, 0x24#8, 0x25#8, 0x26#8, 0x27#8, 0x28#8, 0x29#8, 0x2A#8, 0x30#8, 0x31#8, 0x32#8,
    0x33#8, 0x34#8, 0x35#8] ++
  [0x40#8, 0x41#8, 0x42#8, 0x43#8, 0x44#8, 0x45#8, 0x46#8, 0x47#8, 0x48#8, 0x49#8, 0x4A#8, 0x4B#8]

/-- A code names a request (R188 step 1). -/
def namesRequest (code : Byte) : Bool := requestCodes.contains code

/-- A command is well formed: an UNKNOWN_REQUEST carries a code that names no request (R188), and a SHELVE_TIMER_EXPIRY the
code of a definition (R142, R167). -/
def Instr.wellFormed : Instr → Bool
  | .unknownRequest _ code => !namesRequest code
  | .shelveTimerExpiry code => (Machine.codeOf code).isSome
  | _ => true

end Sys2Proof
end

