-- ==== Sys2Proof/Decode.lean ====
section
/-!
DEFINITION. The reading of commands. The opcode table gives no row any bits, so that no word spells a command there. What
the part does read as bits is a transaction of its request port: decodeTransaction follows R187, R188 and the codes and
payloads of 12.2 and 12.3, and encodeRequest is the host's side of it.
-/

namespace Sys2Proof

/-- The command that a word spells by the table's bits: no row of the table has any, so none. -/
def decodeTableWord (_nbits _w : Nat) : Option Instr := none

/-! ### Receiving a transaction (R187, R188) -/

/-- A byte of a received frame, 0 where it is missing. -/
def byteAt (bytes : List Byte) (i : Nat) : Byte := bytes.getD i 0#8

/-- A 16-bit field of a received frame, most significant byte first (R197). -/
def wordAt (bytes : List Byte) (i : Nat) : Word16 := Machine.join16 (byteAt bytes i) (byteAt bytes (i + 1))

/-- The tag and length field of a request frame (12.2). -/
def headerOf (f : List Byte) : Header := ⟨byteAt f 1, byteAt f 3⟩

/-- One point slot of a STAGE_CURVE_POINTS payload, x then y (12.3). -/
def pointAt (f : List Byte) (i : Nat) : RawPoint := ⟨wordAt f (6 + 4 * i), wordAt f (8 + 4 * i)⟩

/-- A request of the port or the motions by its code and arguments (12.3); a RESET carries the lines as they then stand. -/
def decodeMotion (resetN : Bool) (lines : ResetLines) (f : List Byte) (code : Byte) : Option Instr :=
  let h := headerOf f
  match code.toNat with
  | 0x01 => some (.nop h)
  | 0x02 => some (.status h)
  | 0x03 => some (.reset ⟨h, resetN, lines⟩)
  | 0x04 => some (.set h (byteAt f 4) (wordAt f 5))
  | 0x05 => some (.get h (byteAt f 4))
  | 0x06 => some (.eventsAck h (wordAt f 4))
  | 0x07 => some (.eventsMask h (wordAt f 4))
  | 0x08 => some (.snapshot h)
  | 0x09 => some (.snapshotRead h (byteAt f 4))
  | 0x10 => some (.demand h (wordAt f 4) (wordAt f 6) (wordAt f 8) (wordAt f 10))
  | 0x11 => some (.openChannel h (byteAt f 4) (byteAt f 5))
  | 0x12 => some (.closeChannel h (byteAt f 4))
  | 0x13 => some (.holdAll h)
  | 0x14 => some (.releaseAll h)
  | 0x15 => some (.reference h (byteAt f 4) (wordAt f 5))
  | 0x16 => some (.resume h)
  | 0x18 => some (.portReset h (byteAt f 4))
  | 0x19 => some (.portDisable h (byteAt f 4))
  | 0x1A => some (.portGet h (byteAt f 4))
  | _ => none

/-- A request of the banks or the walk by its code and arguments (12.3). -/
def decodeConfig (f : List Byte) (code : Byte) : Option Instr :=
  let h := headerOf f
  match code.toNat with
  | 0x20 => some (.stageWindow h (byteAt f 4) (byteAt f 5) (wordAt f 6) (wordAt f 8) (byteAt f 10))
  | 0x21 =>
    some (.stageSector h (byteAt f 4) (byteAt f 5) (byteAt f 6) (wordAt f 7) (wordAt f 9) (wordAt f 11) (wordAt f 13)
      (wordAt f 15))
  | 0x22 => some (.stageCurveLength h (byteAt f 4) (byteAt f 5))
  | 0x23 =>
    some (.stageCurvePoints h (byteAt f 4) (byteAt f 5)
      #v[pointAt f 0, pointAt f 1, pointAt f 2, pointAt f 3, pointAt f 4, pointAt f 5])
  | 0x24 => some (.stageBrakeCurve h (byteAt f 4))
  | 0x25 => some (.stageClear h)
  | 0x26 => some (.stageCopy h)
  | 0x27 => some (.commit h)
  | 0x28 => some (.commitCancel h)
  | 0x29 => some (.configGet h (byteAt f 4) (byteAt f 5) (byteAt f 6) (byteAt f 7))
  | 0x2A => some (.sectorAt h (wordAt f 4) (byteAt f 6))
  | 0x30 => some (.legAppend h (byteAt f 4) (byteAt f 5) (wordAt f 6))
  | 0x31 => some (.legDrop h (byteAt f 4))
  | 0x32 => some (.planClear h)
  | 0x33 => some (.planGet h (byteAt f 4))
  | 0x34 => some (.walkStart h)
  | 0x35 => some (.walkHalt h)
  | _ => none

/-- A request of the alarm blocks by its code and arguments (12.3). -/
def decodeAlarm (f : List Byte) (code : Byte) : Option Instr :=
  let h := headerOf f
  match code.toNat with
  | 0x40 => some (.define h (byteAt f 4) (byteAt f 5) (byteAt f 6) (byteAt f 7) (wordAt f 8) (byteAt f 10))
  | 0x41 => some (.definitionGet h (byteAt f 4))
  | 0x42 => some (.raise h (byteAt f 4) (wordAt f 5))
  | 0x43 => some (.clear h (byteAt f 4))
  | 0x44 => some (.ack h (byteAt f 4))
  | 0x45 => some (.ackAll h)
  | 0x46 => some (.shelve h (byteAt f 4) (byteAt f 5))
  | 0x47 => some (.unshelve h (byteAt f 4))
  | 0x48 => some (.silence h)
  | 0x49 => some (.alarmListFirst h)
  | 0x4A => some (.alarmListNext h)
  | 0x4B => some (.alarmGet h (byteAt f 4))
  | _ => none

/-- A good frame: the request its code names, else UNKNOWN_REQUEST (R188 step 1). -/
def decodeRequest (resetN : Bool) (lines : ResetLines) (f : List Byte) : Instr :=
  let code := byteAt f 2
  match decodeMotion resetN lines f code, decodeConfig f code, decodeAlarm f code with
  | some i, _, _ => i
  | none, some i, _ => i
  | none, none, some i => i
  | none, none, none => .unknownRequest (byteAt f 1) code

/-- The command at the rise of select: the rising clock edges counted and the whole bytes received, checked in the order
of R187, then dispatched (R188), with RESET_N and the lines that a RESET
reads. -/
def decodeTransaction (resetN : Bool) (lines : ResetLines) (edges : Nat) (bytes : List Byte) : Instr :=
  if edges < 256 then .frameError .short (byteAt bytes 1) (byteAt bytes 2)
  else if 256 < edges then .frameError .long (byteAt bytes 1) (byteAt bytes 2)
  else if byteAt bytes 0 ≠ 0xA5#8 then .frameError .sync (byteAt bytes 1) (byteAt bytes 2)
  else if Machine.crc16 (bytes.take 30) ≠ wordAt bytes 30 then .frameError .crc (byteAt bytes 1) (byteAt bytes 2)
  else decodeRequest resetN lines bytes

/-! ### Sending a request (12.2, 12.3) -/

/-- The 32 bytes of a request frame: sync, tag, code, length, 26 payload bytes, CRC. -/
def requestFrame (h : Header) (code : Byte) (payload : List Byte) : List Byte :=
  let body := [0xA5#8, h.tag, code, h.len] ++ Machine.padTo 26 payload
  body ++ Machine.bytes16 (Machine.crc16 body)

/-- A point of a STAGE_CURVE_POINTS payload. -/
def rawPointBytes (p : RawPoint) : List Byte := Machine.bytes16 p.x ++ Machine.bytes16 p.y

/-- The frame of a request, every argument in its place whatever the length field says; none for an event. -/
def encodeRequest : Instr → Option (List Byte)
  | .nop h => some (requestFrame h 0x01#8 [])
  | .status h => some (requestFrame h 0x02#8 [])
  | .reset r => some (requestFrame r.header 0x03#8 [])
  | .set h id v => some (requestFrame h 0x04#8 ([id] ++ Machine.bytes16 v))
  | .get h id => some (requestFrame h 0x05#8 [id])
  | .eventsAck h w => some (requestFrame h 0x06#8 (Machine.bytes16 w))
  | .eventsMask h w => some (requestFrame h 0x07#8 (Machine.bytes16 w))
  | .snapshot h => some (requestFrame h 0x08#8 [])
  | .snapshotRead h p => some (requestFrame h 0x09#8 [p])
  | .demand h a b c d =>
    some (requestFrame h 0x10#8 (Machine.bytes16 a ++ Machine.bytes16 b ++ Machine.bytes16 c ++ Machine.bytes16 d))
  | .openChannel h c m => some (requestFrame h 0x11#8 [c, m])
  | .closeChannel h c => some (requestFrame h 0x12#8 [c])
  | .holdAll h => some (requestFrame h 0x13#8 [])
  | .releaseAll h => some (requestFrame h 0x14#8 [])
  | .reference h a p => some (requestFrame h 0x15#8 ([a] ++ Machine.bytes16 p))
  | .resume h => some (requestFrame h 0x16#8 [])
  | .portReset h p => some (requestFrame h 0x18#8 [p])
  | .portDisable h p => some (requestFrame h 0x19#8 [p])
  | .portGet h p => some (requestFrame h 0x1A#8 [p])
  | .stageWindow h w m base mask s =>
    some (requestFrame h 0x20#8 ([w, m] ++ Machine.bytes16 base ++ Machine.bytes16 mask ++ [s]))
  | .stageSector h s c f lo hi ch cd cs =>
    some (requestFrame h 0x21#8
      ([s, c, f] ++ Machine.bytes16 lo ++ Machine.bytes16 hi ++ Machine.bytes16 ch ++ Machine.bytes16 cd ++
        Machine.bytes16 cs))
  | .stageCurveLength h c n => some (requestFrame h 0x22#8 [c, n])
  | .stageCurvePoints h c f pts =>
    some (requestFrame h 0x23#8
      ([c, f] ++ rawPointBytes pts[0] ++ rawPointBytes pts[1] ++ rawPointBytes pts[2] ++ rawPointBytes pts[3] ++
        rawPointBytes pts[4] ++ rawPointBytes pts[5]))
  | .stageBrakeCurve h c => some (requestFrame h 0x24#8 [c])
  | .stageClear h => some (requestFrame h 0x25#8 [])
  | .stageCopy h => some (requestFrame h 0x26#8 [])
  | .commit h => some (requestFrame h 0x27#8 [])
  | .commitCancel h => some (requestFrame h 0x28#8 [])
  | .configGet h b i x f => some (requestFrame h 0x29#8 [b, i, x, f])
  | .sectorAt h a b => some (requestFrame h 0x2A#8 (Machine.bytes16 a ++ [b]))
  | .legAppend h w n v => some (requestFrame h 0x30#8 ([w, n] ++ Machine.bytes16 v))
  | .legDrop h i => some (requestFrame h 0x31#8 [i])
  | .planClear h => some (requestFrame h 0x32#8 [])
  | .planGet h f => some (requestFrame h 0x33#8 [f])
  | .walkStart h => some (requestFrame h 0x34#8 [])
  | .walkHalt h => some (requestFrame h 0x35#8 [])
  | .define h c k s p cap pol => some (requestFrame h 0x40#8 ([c, k, s, p] ++ Machine.bytes16 cap ++ [pol]))
  | .definitionGet h c => some (requestFrame h 0x41#8 [c])
  | .raise h c v => some (requestFrame h 0x42#8 ([c] ++ Machine.bytes16 v))
  | .clear h c => some (requestFrame h 0x43#8 [c])
  | .ack h c => some (requestFrame h 0x44#8 [c])
  | .ackAll h => some (requestFrame h 0x45#8 [])
  | .shelve h c m => some (requestFrame h 0x46#8 [c, m])
  | .unshelve h c => some (requestFrame h 0x47#8 [c])
  | .silence h => some (requestFrame h 0x48#8 [])
  | .alarmListFirst h => some (requestFrame h 0x49#8 [])
  | .alarmListNext h => some (requestFrame h 0x4A#8 [])
  | .alarmGet h c => some (requestFrame h 0x4B#8 [c])
  | .unknownRequest tag code => some (requestFrame ⟨tag, 0#8⟩ code [])
  | .frameError _ _ _ => none
  | .selectFall _ => none
  | .powerOn => none
  | .resetNLow _ => none
  | .resetEnd _ _ => none
  | .axisSampleArrival _ _ => none
  | .ropeEncoderEdge _ _ => none
  | .swingEncoderEdge _ => none
  | .swingIndexMark => none
  | .camToothEdge _ _ => none
  | .camIndexPassage _ _ => none
  | .inclinometerFrame _ => none
  | .inclinometerFrameGap _ => none
  | .stalenessTimerExpiry => none
  | .externalInputSample _ => none
  | .presenceChange _ _ _ => none
  | .resetSequenceTick _ => none
  | .linkPeriodEvent _ => none
  | .driveStatusFrame _ _ => none
  | .openTimerExpiry _ => none
  | .walkOpenTimerExpiry => none
  | .restTimerExpiry _ => none
  | .demandTimerExpiry _ => none
  | .walkDemandTimerExpiry => none
  | .brakeWatchTimerExpiry _ => none
  | .commitTimerExpiry => none
  | .shelveTimerExpiry _ => none
  | .linkWatchdogExpiry => none

end Sys2Proof
end

