-- ==== Sys2Proof/Machine/Flags.lean ====
section
/-!
DEFINITION. The event flags, their mask and ATTN (11.6, 12.6, R191, R192).
-/

namespace Sys2Proof.Machine

/-- The bit of an event flag in the flag set (12.6). -/
def EventFlag.bit : EventFlag → Nat
  | .halted .hoist => 0
  | .halted .drag => 1
  | .halted .swing => 2
  | .halted .walk => 3
  | .openFailed => 4
  | .legDone => 5
  | .commitDone => 6
  | .commitAbandoned => 7
  | .holdEffective => 8
  | .portChange => 9
  | .alarmNew => 10
  | .trip => 11
  | .resetDone => 12
  | .referenced => 13
  | .walkStopped => 14
  | .snapshotTaken => 15

/-- The flag set of one flag. -/
def EventFlag.word (f : EventFlag) : Word16 := 1#16 <<< f.bit

/-- Whether a flag stands in a flag set. -/
def EventFlag.isIn (f : EventFlag) (w : Word16) : Bool := w.getLsbD f.bit

/-- ATTN is active while at least one flag is both set and unmasked (R192). -/
def attnLevel (flags mask : Word16) : Bool := (flags &&& ~~~mask) != 0#16

/-- The state with the flags and the mask written, and ATTN driven from them in the same event (R192). -/
def State.setFlagWords (s : State) (flags mask : Word16) : State :=
  { s with
    rport := { s.rport with flags := flags, mask := mask }
    pins := { s.pins with attn := attnLevel flags mask } }

/-- A block sets an event flag; a flag already set stays set (R191). -/
def State.setFlag (s : State) (f : EventFlag) : State :=
  s.setFlagWords (s.rport.flags ||| f.word) s.rport.mask

/-- EVENTS_ACK clears the flags named and leaves the others (R191). -/
def State.ackFlags (s : State) (named : Word16) : State :=
  s.setFlagWords (s.rport.flags &&& ~~~named) s.rport.mask

/-- EVENTS_MASK replaces the whole mask (R192). -/
def State.setMask (s : State) (mask : Word16) : State := s.setFlagWords s.rport.flags mask

end Sys2Proof.Machine
end

