-- ==== Sys2Proof/Machine/AlarmTable.lean ====
section
/-!
DEFINITION. The Alarm Definitions' pending marks and the Alarm Table (R154, R155, chapter 9). A raise with its
displacement, its mark and any raise of code 27 is one computation here, as is a retirement with its admission; the
consequence set is delivered at the end of it (Cascade.lean).
-/

namespace Sys2Proof.Machine

/-- A class at or above DERATE (R143). -/
def AlarmClass.limits : AlarmClass → Bool
  | .note => false
  | _ => true

/-- The order of the classes (R143). -/
def AlarmClass.rank : AlarmClass → Nat
  | .note => 0
  | .derate => 1
  | .hold => 2
  | .stop => 3

/-! ### Records -/

/-- The list order: the overflow record, when present, then the ordinary records oldest first (R158, R171). -/
def AlarmTable.listing (t : AlarmTable) : List AlarmRecord := t.overflow.toList ++ t.records

/-- The record of a code, in its slot or among the ordinary records (R158). -/
def AlarmTable.find (t : AlarmTable) (c : Code) : Option AlarmRecord :=
  if c = .tableOverflow then t.overflow else t.records.find? fun r => decide (r.code = c)

/-- The table with the record of a code changed in its place. -/
def AlarmTable.modify (t : AlarmTable) (c : Code) (f : AlarmRecord → AlarmRecord) : AlarmTable :=
  if c = .tableOverflow then { t with overflow := t.overflow.map f }
  else { t with records := t.records.map fun r => if r.code = c then f r else r }

/-- The code before a code in list order, none when it stands first (R172). -/
def codeBefore (c : Code) : List Code → Option Code
  | [] => none
  | [_] => none
  | x :: y :: rest => if y = c then some x else codeBefore c (y :: rest)

/-- A record leaves the table: those behind it close up, and a cursor on it moves to the record before it (R158, R172). -/
def AlarmTable.remove (t : AlarmTable) (c : Code) : AlarmTable :=
  let cursor := if t.cursor = some c then codeBefore c (t.listing.map AlarmRecord.code) else t.cursor
  if c = .tableOverflow then { t with overflow := none, cursor := cursor }
  else { t with records := t.records.filter fun r => decide (r.code ≠ c), cursor := cursor }

/-- The next raise sequence number, wrapping from 4294967295 to 1 (R159). -/
def nextSequence (n : Nat) : Nat := if Config.maxSequence ≤ n then 1 else n + 1

/-- The oldest NOTE record among the ordinary records (R162). -/
def AlarmTable.oldestNote (t : AlarmTable) : Option AlarmRecord := t.records.find? fun r => decide (r.cls = .note)

/-- The record of a raise: ACTIVE_UNACK, with class, scope, cap and value as the definition holds them (R157, R160). -/
def newRecord (c : Code) (d : Definition) (seq : Nat) : AlarmRecord where
  code := c
  state := .activeUnack
  cls := d.cls
  scope := d.scope
  cap := if d.cls = .derate then some d.cap else none
  seq := seq
  recurrence := 0
  value := d.raiseValue
  shelve := none

/-- A record created at the newest position, or in the overflow slot: it takes a sequence number, sets ALARM_NEW and
clears the silence flag (R158, R159, R160, R174). -/
def State.createRecord (s : State) (c : Code) : State :=
  let seq := nextSequence s.table.sequence
  let r := newRecord c (s.definition c) seq
  let t := { s.table with sequence := seq, silence := false }
  let t := if c = .tableOverflow then { t with overflow := some r } else { t with records := t.records ++ [r] }
  (s.setTable t).setFlag .alarmNew

/-- A revived record: ACTIVE_UNACK in its position, one more recurrence held at 255, the raise's value, a new
sequence number (R160). -/
def State.reviveRecord (s : State) (c : Code) : State :=
  let seq := nextSequence s.table.sequence
  let value := (s.definition c).raiseValue
  let t := s.table.modify c fun r =>
    { r with state := .activeUnack, recurrence := min Config.maxRecurrence (r.recurrence + 1), value := value, seq := seq }
  (s.setTable { t with sequence := seq, silence := false }).setFlag .alarmNew

/-- A record's state set. -/
def State.setRecordState (s : State) (c : Code) (x : RecordState) : State :=
  s.setTable (s.table.modify c fun r => { r with state := x, shelve := none })

/-! ### Code 27 (R155, R170) -/

/-- Some code whose class is DERATE, HOLD or STOP has its pending mark set (R155). -/
def State.limitingMark (s : State) : Bool :=
  Code.all.any fun c => (s.definition c).pendingMark && (s.definition c).cls.limits

/-- Some definition has its pending mark set (R196). -/
def State.anyMark (s : State) : Bool := Code.all.any fun c => (s.definition c).pendingMark

/-- The raise of code 27: its record is created in the slot, or revived from CLEARED_UNACK (R160, R170). -/
def State.raiseOverflow (s : State) : State :=
  let d := s.definition .tableOverflow
  let s := s.setDef .tableOverflow { d with active := true, run := 0, raiseValue := none }
  match s.table.overflow with
  | none => s.createRecord .tableOverflow
  | some r => if r.state = .clearedUnack then s.reviveRecord .tableOverflow else s

/-- The clear of code 27: its record goes to CLEARED_UNACK, or retires from ACTIVE_ACK with no admission (R161, R163). R170
says that the record, ACTIVE_UNACK or ACTIVE_ACK, goes to CLEARED_UNACK; the model takes the table of R161 (DEDUCED,
assumption log 23). -/
def State.clearOverflow (s : State) : State :=
  let d := s.definition .tableOverflow
  let s := s.setDef .tableOverflow { d with active := false, run := 0, raiseValue := none }
  match s.table.overflow with
  | none => s
  | some r =>
    match r.state with
    | .activeUnack => s.setRecordState .tableOverflow .clearedUnack
    | .activeAck => s.setTable (s.table.remove .tableOverflow)
    | .shelved => s.setTable (s.table.remove .tableOverflow)
    | .clearedUnack => s

/-- The sample of TABLE_OVERFLOW at each setting and clearing of a mark, with persistence 0 (R155). -/
def State.overflowSample (s : State) : State :=
  let raw := s.limitingMark
  if raw = (s.definition .tableOverflow).active then s
  else if raw then s.raiseOverflow else s.clearOverflow

/-- A pending mark is set or cleared, and TABLE_OVERFLOW sampled (R154, R155). -/
def State.setMarkOf (s : State) (c : Code) (mark : Bool) : State :=
  (s.setDef c { s.definition c with pendingMark := mark }).overflowSample

/-! ### Raises, clears and retirements -/

/-- A raise that finds 32 ordinary records: the oldest NOTE record is displaced, its code marked if still ACTIVE,
and the raised code gets a record; with no NOTE record the raised code is marked (R162). -/
def State.raiseNoRoom (s : State) (c : Code) : State :=
  match s.table.oldestNote with
  | some n =>
    let s := s.setTable (s.table.remove n.code)
    let s := if (s.definition n.code).active then s.setMarkOf n.code true else s
    s.createRecord c
  | none => s.setMarkOf c true

/-- A raise delivered to the table (R160). -/
def State.raiseRecord (s : State) (c : Code) : State :=
  match s.table.find c with
  | some r => if r.state = .clearedUnack then s.reviveRecord c else s
  | none =>
    if c = .tableOverflow ∨ s.table.records.length < Config.maxRecords then s.createRecord c else s.raiseNoRoom c

/-- The lowest-numbered code whose pending mark is set (R154). -/
def State.lowestMarked (s : State) : Option Code := Code.all.find? fun c => (s.definition c).pendingMark

/-- The retirement of a record: an ordinary record's room admits the lowest-numbered marked code, whose mark is cleared
(R154, R163). -/
def State.retireRecord (s : State) (c : Code) : State :=
  let s := s.setTable (s.table.remove c)
  if c = .tableOverflow then s
  else
    match s.lowestMarked with
    | some m => (s.setMarkOf m false).createRecord m
    | none => s

/-- A clear of a code: a pending mark is cleared and nothing reaches the table; otherwise the record goes to
CLEARED_UNACK or retires (R149, R154, R161). -/
def State.clearRecord (s : State) (c : Code) : State :=
  if (s.definition c).pendingMark then s.setMarkOf c false
  else
    match s.table.find c with
    | some r =>
      match r.state with
      | .activeUnack => s.setRecordState c .clearedUnack
      | .activeAck => s.retireRecord c
      | .shelved => s.retireRecord c
      | .clearedUnack => s
    | none => s

/-- The acknowledgement of one record (R164). -/
def State.ackRecord (s : State) (c : Code) : State :=
  match s.table.find c with
  | some r =>
    match r.state with
    | .activeUnack => s.setRecordState c .activeAck
    | .clearedUnack => s.retireRecord c
    | .activeAck => s
    | .shelved => s
  | none => s

/-! ### What is in effect (R168, R169, R174, R175) -/

/-- A record is in effect by its class and state (R168). -/
def AlarmRecord.inEffect (r : AlarmRecord) : Bool :=
  match r.cls, r.state with
  | .note, _ => false
  | _, .shelved => false
  | .derate, .clearedUnack => false
  | _, _ => true

/-- The derate term of a channel: the least cap of the DERATE records in effect that scope it, 1000 when there is
none (R43, R169). -/
def derateTerm (records : List AlarmRecord) (m : Motion) : Nat :=
  match records with
  | [] => 1000
  | r :: rest =>
    let here := if r.cls = .derate ∧ r.inEffect = true ∧ r.scope.get m = true then r.cap.getD 1000 else 1000
    min here (derateTerm rest m)

/-- A HOLD record in effect scopes the channel (R169). -/
def holdPresent (records : List AlarmRecord) (m : Motion) : Bool :=
  records.any fun r => decide (r.cls = .hold) && r.inEffect && r.scope.get m

/-- A STOP record is in effect (R169). -/
def tripPresent (records : List AlarmRecord) : Bool := records.any fun r => decide (r.cls = .stop) && r.inEffect

/-- The consequence set formed from the records in effect (R169). -/
def AlarmTable.formConsequence (t : AlarmTable) : Consequence where
  derate :=
    ⟨derateTerm t.listing .hoist, derateTerm t.listing .drag, derateTerm t.listing .swing, derateTerm t.listing .walk⟩
  hold :=
    ⟨holdPresent t.listing .hoist, holdPresent t.listing .drag, holdPresent t.listing .swing,
      holdPresent t.listing .walk⟩
  trip := tripPresent t.listing

/-- A record that is unacknowledged: ACTIVE_UNACK or CLEARED_UNACK (R174). -/
def AlarmRecord.unacknowledged (r : AlarmRecord) : Bool :=
  decide (r.state = .activeUnack) || decide (r.state = .clearedUnack)

/-- HORN: some record is unacknowledged and the silence flag is clear (R174). -/
def AlarmTable.hornLevel (t : AlarmTable) : Bool := t.listing.any AlarmRecord.unacknowledged && !t.silence

/-- BEACON: some DERATE, HOLD or STOP record is in effect (R175). -/
def AlarmTable.beaconLevel (t : AlarmTable) : Bool := t.listing.any AlarmRecord.inEffect

/-- The end of a table change event: the consequence set, HORN and BEACON (R169, R174, R175). -/
def State.endTableEvent (s : State) : State :=
  let t := { s.table with consequence := s.table.formConsequence }
  (s.setTable t).setPins { s.pins with horn := t.hornLevel, beacon := t.beaconLevel }

/-- The number of records in a state, the overflow record included (R176). -/
def AlarmTable.countState (t : AlarmTable) (x : RecordState) : Nat :=
  (t.listing.filter fun r => decide (r.state = x)).length

end Sys2Proof.Machine
end

