-- ==== Sys2Proof/Machine/SectorMap.lean ====
section
/-!
DEFINITION. Curve evaluation (R33 to R36) and the Sector Map (chapter 2): which window governs an angle, NOGO,
WALK, envelopes, blocked angles and blocking distances. All are questions put to one bank.
-/

namespace Sys2Proof.Machine

/-- A bank by its name. -/
def ConfigBanks.named (b : ConfigBanks) : BankName → Bank
  | .staged => b.staged
  | .active => b.active

/-! ### Curves -/

/-- A curve whose point count is 2 or more is set (R33). -/
def Curve.isSet (c : Curve) : Bool := 2 ≤ c.count

/-- The curve's points in order: its first n slots (R33). -/
def Curve.points (c : Curve) : List Point := c.slots.toList.take c.count

/-- The value on the segment from p to q at x, the quotient truncated toward zero (R34). Its intermediate values
fit 32 bits for slots of 0 to 20000 (R35), so that integers give the same value. -/
def segmentValue (p q : Point) (x : Nat) : Int :=
  (p.y : Int) + (((q.y : Int) - p.y) * ((x : Int) - p.x)).tdiv ((q.x : Int) - p.x)

/-- The value on the first segment that fits x, that is the lowest i with x_i ≤ x < x_(i+1) (R34). -/
def segmentSearch (p : Point) (rest : List Point) (x : Nat) : Int :=
  match rest with
  | [] => p.y
  | q :: more => if p.x ≤ x ∧ x < q.x then segmentValue p q x else segmentSearch q more x

/-- The value of a list of points at x: before the first point, from the last point on, or between (R34). -/
def evalPoints (pts : List Point) (x : Nat) : Int :=
  match pts with
  | [] => 0
  | p :: rest =>
    if x ≤ p.x then p.y
    else
      let last := rest.getLastD p
      if last.x ≤ x then last.y else segmentSearch p rest x

/-- The value of a curve at x; none for an unset curve, which is not evaluated (R34, R36). -/
def Curve.value (c : Curve) (x : Nat) : Option Int := if c.isSet then some (evalPoints c.points x) else none

/-- The curve a number names in a bank. -/
def Bank.curve (b : Bank) (i : Fin 16) : Curve := b.curves[i]

/-! ### Windows -/

/-- The window numbers, lowest first. -/
def windowNumbers : List (Fin 16) := [0, 1, 2, 3, 4, 5, 6, 7, 8, 9, 10, 11, 12, 13, 14, 15]

/-- The window a number names in a bank. -/
def Bank.window (b : Bank) (i : Fin 16) : Window := b.windows[i]

/-- An enabled window covers an angle when the angle AND the mask equals the base (R20). -/
def Window.covers (w : Window) (a : Angle) : Bool := w.enable && (a &&& w.mask) == w.base

/-- The masks that are contiguous from the top (R21). -/
def contiguousMasks : List Angle :=
  [0#12, 2048#12, 3072#12, 3584#12, 3840#12, 3968#12, 4032#12, 4064#12, 4080#12, 4088#12, 4092#12, 4094#12, 4095#12]

/-- A window is well formed: a contiguous mask, and no bit of the base outside it (R21). -/
def Window.wellFormed (w : Window) : Bool := contiguousMasks.contains w.mask && (w.base &&& ~~~w.mask) == 0#12

/-- The governing window of an angle: the lowest-numbered enabled window that covers it (R23). -/
def Bank.governing (b : Bank) (a : Angle) : Option (Fin 16) :=
  windowNumbers.find? fun i => (b.window i).covers a

/-- SRD's number (R22). -/
def srd : Fin 9 := 8

/-- The governing sector of an angle: the one its governing window names, else SRD (R23). -/
def Bank.governingSector (b : Bank) (a : Angle) : Fin 9 :=
  match b.governing a with
  | some i => (b.window i).sector.castLE (by omega)
  | none => srd

/-- The lowest-numbered enabled NOGO window that covers an angle (R24, R32). -/
def Bank.nogoWindow (b : Bank) (a : Angle) : Option (Fin 16) :=
  windowNumbers.find? fun i => (b.window i).covers a && (b.window i).nogo

/-- An angle is NOGO when some enabled NOGO window covers it, whatever its number (R24). -/
def Bank.isNogo (b : Bank) (a : Angle) : Bool := (b.nogoWindow a).isSome

/-- Walking is allowed at an angle when its governing window has WALK set (R26). -/
def Bank.walkAllowed (b : Bank) (a : Angle) : Bool :=
  match b.governing a with
  | some i => (b.window i).walk
  | none => false

/-- The named-window question: the window is enabled, has WALK, and covers the angle (R26). -/
def Bank.legAllowed (b : Bank) (i : Fin 16) (a : Angle) : Bool := (b.window i).covers a && (b.window i).walk

/-! ### Envelopes and blocked angles -/

/-- A sector record by its number. -/
def Bank.sector (b : Bank) (i : Fin 9) : Sector := b.sectors[i]

/-- Hmin and Hmax of a sector at a drag payout; none when either curve is unset (R36, R37). -/
def Bank.hoistLimits (b : Bank) (sec : Sector) (d : Nat) : Option (Int × Int) :=
  match (b.curve sec.ceiling).value d, (b.curve sec.floor).value d with
  | some lo, some hi => some (lo, hi)
  | _, _ => none

/-- A sector's envelope contains (D, H), every bound inclusive; none is contained when a curve is unset (R27). -/
def Bank.contains (b : Bank) (sec : Sector) (d h : Nat) : Bool :=
  match b.hoistLimits sec d with
  | some (lo, hi) =>
    decide (sec.dmin ≤ d) && decide (d ≤ sec.dmax) && decide (lo ≤ (h : Int)) && decide ((h : Int) ≤ hi)
  | none => false

/-- The envelope of the governing sector of an angle contains (D, H). -/
def Bank.containsAt (b : Bank) (a : Angle) (d h : Nat) : Bool := b.contains (b.sector (b.governingSector a)) d h

/-- An angle is blocked for (D, H): NOGO, or outside its governing sector's envelope (R28). -/
def Bank.isBlocked (b : Bank) (d h : Nat) (a : Angle) : Bool := b.isNogo a || !b.containsAt a d h

/-- The least k from a start on that passes a test, within a number of tries. -/
def firstPassing (test : Nat → Bool) : Nat → Nat → Option Nat
  | 0, _ => none
  | tries + 1, k => if test k then some k else firstPassing test tries (k + 1)

/-- The blocking distance clockwise, 1 to 4095; none when unbounded (R29). -/
def Bank.distanceClockwise (b : Bank) (a : Angle) (d h : Nat) : Option Nat :=
  firstPassing (fun k => b.isBlocked d h (a + BitVec.ofNat 12 k)) 4095 1

/-- The blocking distance counter-clockwise, 1 to 4095; none when unbounded (R29). -/
def Bank.distanceCounter (b : Bank) (a : Angle) (d h : Nat) : Option Nat :=
  firstPassing (fun k => b.isBlocked d h (a - BitVec.ofNat 12 k)) 4095 1

/-- A blocking distance as reported to the host: 4096 when unbounded (R29). -/
def reportedDistance : Option Nat → Nat
  | some k => k
  | none => 4096

/-- A sector number as reported: 0 to 7, or 8 for SRD (R22). -/
def Bank.sectorNumber (b : Bank) (a : Angle) : Nat := (b.governingSector a).val

end Sys2Proof.Machine
end

