-- ==== Sys2Proof/Machine/CurveEngine.lean ====
section
/-!
DEFINITION. The Curve Engine's permission arithmetic (chapter 3): margins, taper, braking and derate terms, the
permitted value and the limiting terms of the hoist, drag and swing channels, and the ramp of R78.
-/

namespace Sys2Proof.Machine

/-- A pair of terms, one for each direction: pos is OUT or clockwise, neg is IN or counter-clockwise. -/
structure Directions where
  pos : Int
  neg : Int
  deriving DecidableEq, Repr

/-- The governing sector record of the present angle in ACTIVE (R37). -/
def State.activeSector (s : State) : Sector :=
  s.banks.active.sector (s.banks.active.governingSector s.angle)

/-! ### Margins -/

/-- The hoist margins, OUT Hmax - H and IN H - Hmin; 0 when a curve is unset (R36, R38). -/
def State.hoistMargins (s : State) : Directions :=
  match s.banks.active.hoistLimits s.activeSector s.payoutD with
  | some (lo, hi) => ⟨hi - s.payoutH, s.payoutH - lo⟩
  | none => ⟨0, 0⟩

/-- The hoist room at a drag payout: the smaller of Hmax - H and H - Hmin there (R40). -/
def State.hoistRoom (s : State) (d : Nat) : Option Int :=
  match s.banks.active.hoistLimits s.activeSector d with
  | some (lo, hi) => some (min (hi - s.payoutH) (s.payoutH - lo))
  | none => none

/-- A drag margin from the plain margin and the look-ahead payout: coupled only where the step ahead would leave
less hoist room; 0 when a curve is unset (R36, R40). -/
def State.coupledMargin (s : State) (plain : Int) (ahead : Nat) : Int :=
  match s.hoistRoom s.payoutD, s.hoistRoom ahead with
  | some here, some there => if there < here then min plain there else plain
  | _, _ => 0

/-- The drag margins, OUT Dmax - D and IN D - Dmin, coupled by R40 (R39). -/
def State.dragMargins (s : State) : Directions :=
  let look := s.cfg .lookaheadD
  { pos := s.coupledMargin ((s.activeSector.dmax : Int) - s.payoutD) (clampNat 0 Config.maxPayout (s.payoutD + look))
    neg := s.coupledMargin ((s.payoutD : Int) - s.activeSector.dmin) (clampNat 0 Config.maxPayout (s.payoutD - look)) }

/-! ### Terms -/

/-- The taper of a margin with band b and creep c (R41). -/
def taper (b c : Nat) (m : Int) : Int :=
  if m ≤ 0 then 0 else if (b : Int) ≤ m then 1000 else (c : Int) + ((1000 - (c : Int)) * m).tdiv b

/-- The braking term of a blocking distance by the braking curve of ACTIVE (R42). -/
def State.brakingOf (s : State) (distance : Option Nat) : Int :=
  match distance with
  | none => 1000
  | some k =>
    match (s.banks.active.curve s.banks.active.brake).value k with
    | some v => min v 1000
    | none => 0

/-- The present angle is NOGO in ACTIVE. -/
def State.atNogo (s : State) : Bool := s.banks.active.isNogo s.angle

/-- The swing braking terms in both directions; 1000 at a NOGO angle (R42). -/
def State.brakingTerms (s : State) : Directions :=
  if s.atNogo then ⟨1000, 1000⟩
  else
    { pos := s.brakingOf (s.banks.active.distanceClockwise s.angle s.payoutD s.payoutH)
      neg := s.brakingOf (s.banks.active.distanceCounter s.angle s.payoutD s.payoutH) }

/-- The limiting terms of a FOLLOW channel in both directions (R50). -/
def State.limitingTerms (s : State) (a : Axis) : Directions :=
  match a with
  | .hoist =>
    { pos := taper (s.cfg .taperH) (s.cfg .creepH) s.hoistMargins.pos
      neg := taper (s.cfg .taperH) (s.cfg .creepH) s.hoistMargins.neg }
  | .drag =>
    { pos := taper (s.cfg .taperD) (s.cfg .creepD) s.dragMargins.pos
      neg := taper (s.cfg .taperD) (s.cfg .creepD) s.dragMargins.neg }
  | .swing => s.brakingTerms

/-- A term in the direction of a signed speed. -/
def Directions.along (t : Directions) (v : Int) : Int := if 0 < v then t.pos else t.neg

/-- The sector cap of a channel (R45, R46). -/
def Sector.capOf (sec : Sector) : Axis → Nat
  | .hoist => sec.hoistCap
  | .drag => sec.dragCap
  | .swing => sec.swingCap

/-- The creep setting of a channel (R48). -/
def creepOf : Axis → Setting
  | .hoist => .creepH
  | .drag => .creepD
  | .swing => .creepS

/-- A magnitude carrying the sign of a demand; 0 for a demand of 0 (R49). -/
def signed (demand magnitude : Int) : Int :=
  if 0 < demand then magnitude else if demand < 0 then -magnitude else 0

/-- The magnitude of a signed speed. -/
def magnitude (v : Int) : Int := (v.natAbs : Int)

/-- The demand an update reads: 0 when it has expired (R44). -/
def Channel.readDemand (c : Channel) : Int := if c.expired then 0 else c.demand

/-- The permitted value of a RUNNING channel in FOLLOW mode (R45, R46, R47, R49). -/
def State.permittedFollow (s : State) (a : Axis) (c : Channel) : Int :=
  let demand := c.readDemand
  if a = .swing ∧ s.atNogo = true then
    signed demand (min (magnitude demand) (min (s.cfg .creepS : Int) c.derate))
  else
    signed demand
      (min (magnitude demand)
        (min (s.activeSector.capOf a : Int) (min (c.derate : Int) ((s.limitingTerms a).along demand))))

/-- The permitted value of a RUNNING channel in MAINT mode (R48, R49). -/
def State.permittedMaint (s : State) (a : Axis) (c : Channel) : Int :=
  let demand := c.readDemand
  signed demand (min (magnitude demand) (min (s.cfg (creepOf a) : Int) c.derate))

/-- The permitted value of a RUNNING channel by its mode (R44). -/
def State.permittedValue (s : State) (a : Axis) (c : Channel) : Int :=
  match c.mode with
  | .follow => s.permittedFollow a c
  | .maint => s.permittedMaint a c

/-! ### The ramp -/

/-- A reference moved toward 0 by a step, without crossing it (R78). -/
def towardZero (r step : Int) : Int :=
  if magnitude r ≤ step then 0 else if 0 < r then r - step else r + step

/-- The ramp of R78 without its limit stop row: the new reference from the previous one r and the permitted value p. -/
def ramp (accel decel r p : Int) : Int :=
  if p = 0 ∨ (0 < p ∧ r < 0) ∨ (p < 0 ∧ 0 < r) then towardZero r decel
  else if magnitude r < magnitude p then
    (if magnitude p - magnitude r ≤ accel then p else if 0 < p then r + accel else r - accel)
  else if magnitude p < magnitude r then
    (if magnitude r - magnitude p ≤ decel then p else if 0 < r then r - decel else r + decel)
  else r

/-- The limit stop of a FOLLOW channel: the reference is not 0 and the limiting term in its direction is 0 (R79). -/
def State.limitStop (s : State) (a : Axis) (c : Channel) : Bool :=
  c.mode == .follow && c.reference != 0 && (s.limitingTerms a).along c.reference == 0

/-- The new reference of a channel for a permitted value (R78, R79). -/
def State.newReference (s : State) (a : Axis) (c : Channel) (p : Int) : Int :=
  if s.limitStop a c then 0
  else ramp (s.cfg (.accelStep a.motion)) (s.cfg (.decelStep a.motion)) c.reference p

end Sys2Proof.Machine
end

