-- ==== Sys2Proof/Machine/DrivePorts.lean ====
section
/-!
DEFINITION. The Drive Ports (chapter 7): frames sent, the brake watch, port state changes, the reset sequence and
the judgment of replies.
-/

namespace Sys2Proof.Machine

/-! ### Frames and the brake watch -/

/-- What a channel hands to its port for a link period (R69, R77). -/
structure Handed where
  reference : Int
  enable : Bool
  brake : Brake
  deriving DecidableEq, Repr

/-- The frame of a channel that takes no part in motion: reference 0, enable off, brake SET (R77, R89, R116). -/
def Handed.rest : Handed := ⟨0, false, .apply⟩

/-- The brake watch at a frame sent with a command (R137): OPEN after SET is unconfirmed and untimed; SET after OPEN
is unconfirmed, starts the watch timer, and is timed only when the OPEN was confirmed; the same command changes
nothing. -/
def BrakeWatch.sent (w : BrakeWatch) (command : Brake) (timer : Timer) : BrakeWatch :=
  match w.command, command with
  | .apply, .release => { w with command := .release, confirmed := false, timed := false, timer := none }
  | .release, .apply => { w with command := .apply, confirmed := false, timed := w.confirmed, timer := some timer }
  | .apply, .apply => w
  | .release, .release => w

/-- A frame of a kind is sent with the port's next sequence, which becomes its sequence (R129, R130). -/
def Port.sendFrame (p : Port) (kind : FrameKind) (h : Handed) : Port :=
  let seq := p.sequence + 1#8
  { p with sequence := seq, sent := some ⟨kind, seq, h.reference, h.enable, h.brake⟩ }

/-- A REFERENCE frame is sent: it becomes the outstanding frame, and its brake command goes to the watch (R130, R135). -/
def State.sendReference (s : State) (m : Motion) (h : Handed) : State :=
  let p := (s.ports.get m).sendFrame .reference h
  s.setPort m { p with outstanding := some ⟨p.sequence, false⟩, watch := p.watch.sent h.brake s.brakeTimer }

/-- The final frame of a trip, sent at once on an ENABLED port; nothing is sent on another port (R89, R116, R135). -/
def State.sendFinal (s : State) (m : Motion) : State :=
  if (s.ports.get m).state = .enabled then s.sendReference m Handed.rest else s

/-! ### State changes -/

/-- Some other port is in breach (R138). -/
def State.otherBreach (s : State) (m : Motion) : Bool :=
  (m != .hoist && s.ports.hoist.watch.inBreach) || (m != .drag && s.ports.drag.watch.inBreach) ||
    (m != .swing && s.ports.swing.watch.inBreach) || (m != .walk && s.ports.walk.watch.inBreach)

/-- A port's state and cause recorded, and PORT_CHANGE set (R126). -/
def State.changePort (s : State) (m : Motion) (state : PortState) (cause : PortCause) : State :=
  (s.setPort m { s.ports.get m with state := state, lastCause := some cause }).setFlag .portChange

/-- The BRAKE_MISMATCH sample due when a port leaves breach and no other port is in breach (R138). -/
def State.breachEnds (s : State) (m : Motion) : List Act :=
  if (s.ports.get m).watch.inBreach && !s.otherBreach m then [.sample .brakeMismatch false none] else []

/-- A port leaves ENABLED (R134): state, cause and PORT_CHANGE; link timer stopped (a reset sequence starts it again)
and outstanding frame cleared; brake watch cleared; then the channel is told, and the condition of the cause
sampled. -/
def State.leaveEnabled (s : State) (m : Motion) (state : PortState) (cause : PortCause) (condition : List Act) :
    State × List Act :=
  let breach := s.breachEnds m
  let s := s.changePort m state cause
  let p := s.ports.get m
  (s.setPort m { p with linkTimer := none, outstanding := none, watch := BrakeWatch.cleared },
    breach ++ [.portLost m] ++ condition)

/-- Reset and enquiry frames carry reference 0, enable off and brake SET (R129). -/
def Port.sendKind (p : Port) (kind : FrameKind) : Port := p.sendFrame kind Handed.rest

/-- The entry into RESETTING: phase RESET_FRAMES, a reset frame at once, the link timer started (R129). -/
def State.beginResetSequence (s : State) (m : Motion) : State :=
  let p := (s.ports.get m).sendKind .reset
  s.setPort m
    { p with phase := some (.resetFrames 0), linkTimer := some (Timer.start (s.cfg (.linkPeriod m))) }

/-- The entry into ENABLED at a qualifying reply (R129). DRIVE_LOST_x is sampled before DRIVE_FAULT_x: R129 names both without
an order and R148 asks for none (DESIGN CHOICE, assumption log 26). -/
def State.enterEnabled (s : State) (m : Motion) (d : DriveStatus) : State × List Act :=
  let s := s.changePort m .enabled .resetOk
  let p := s.ports.get m
  let watch : BrakeWatch := ⟨.apply, d.brakeSet && !d.brakeOpen, false, false, none⟩
  (s.setPort m { p with lastStatus := some d, misses := 0, outstanding := none, phase := none, watch := watch },
    [.sample (.driveLost m) false none, .sample (.driveFault m) false none])

/-- A miss: the third in a row takes the port to DISABLED with cause MISSES (R133). -/
def State.countMiss (s : State) (m : Motion) : State × List Act :=
  let p := s.ports.get m
  let s := s.setPort m { p with misses := p.misses + 1, outstanding := p.outstanding.map fun o => { o with judged := true } }
  if Config.maxMisses ≤ p.misses + 1 then
    s.leaveEnabled m .disabled .misses [.sample (.driveLost m) true none]
  else (s, [])

/-! ### Replies -/

/-- The brake watch at a good reply (R137, R138, R198: both fields reported count as brake_open). The flag says
whether the reply is a breach event. -/
def BrakeWatch.judge (w : BrakeWatch) (d : DriveStatus) : BrakeWatch × Bool :=
  match w.command with
  | .release => if d.brakeOpen then ({ w with confirmed := true, inBreach := false }, false) else (w, false)
  | .apply =>
    if d.brakeOpen then
      if w.confirmed || !w.timed then ({ w with inBreach := true }, true) else (w, false)
    else if d.brakeSet then ({ w with confirmed := true, timer := none, inBreach := false }, false)
    else (w, false)

/-- The value BRAKE_MISMATCH carries: the port number (R138). -/
def portNumber : Motion → Int
  | .hoist => 0
  | .drag => 1
  | .swing => 2
  | .walk => 3

/-- A good reply without fault is given to the brake watch, then delivered to the owning channel (R132). -/
def State.replyToWatch (s : State) (m : Motion) (d : DriveStatus) : State × List Act :=
  let p := s.ports.get m
  let (w, breach) := p.watch.judge d
  let ended := if p.watch.inBreach && !w.inBreach then s.breachEnds m else []
  (s.setPort m { p with watch := w },
    (if breach then [.sample .brakeMismatch true (some (portNumber m))] else ended) ++ [.reply m d])

/-- A good reply in ENABLED (R132). -/
def State.goodReply (s : State) (m : Motion) (d : DriveStatus) : State × List Act :=
  let p := s.ports.get m
  let s := s.setPort m
    { p with
      lastStatus := some d, misses := 0
      outstanding := p.outstanding.map fun o => { o with judged := true } }
  if d.fault then s.leaveEnabled m .disabled .fault [.sample (.driveFault m) true none]
  else s.replyToWatch m d

/-- A status frame in ENABLED: judged only while a frame is outstanding and unjudged; a late reply is discarded (R131). -/
def State.judgeFrame (s : State) (m : Motion) (f : Option StatusFrame) : State × List Act :=
  match (s.ports.get m).outstanding with
  | none => (s, [])
  | some o =>
    if o.judged then (s, [])
    else
      match f with
      | none => s.countMiss m
      | some f =>
        if f.echo = o.seq then s.goodReply m f.status
        else if f.echo = o.seq - 1#8 then (s, [])
        else s.countMiss m

/-- A status frame in RESETTING: discarded in the RESET_FRAMES phase; in ENQUIRY one with the echo of the latest
enquiry qualifies when it reports ready and no fault, and is else stored as the last status (R129). -/
def State.enquiryReply (s : State) (m : Motion) (f : Option StatusFrame) : State × List Act :=
  let p := s.ports.get m
  match p.phase, f with
  | some (.enquiry _), some f =>
    if f.echo = p.sequence then
      if f.status.ready && !f.status.fault then s.enterEnabled m f.status
      else (s.setPort m { p with lastStatus := some f.status }, [])
    else (s, [])
  | _, _ => (s, [])

/-- A status frame received on a port, by the port's state (R126, R129, R131). -/
def State.receiveStatus (s : State) (m : Motion) (bytes : List Byte) : State × List Act :=
  match (s.ports.get m).state with
  | .enabled => s.judgeFrame m (readStatusFrame bytes)
  | .resetting => s.enquiryReply m (readStatusFrame bytes)
  | .detached => (s, [])
  | .attached => (s, [])
  | .disabled => (s, [])

/-- An expiry of the link timer in RESETTING: the timer restarts and the phase decides (R129). -/
def State.resetTick (s : State) (m : Motion) : State × List Act :=
  let p := s.ports.get m
  match p.state, p.linkTimer, p.phase with
  | .resetting, some t, some phase =>
    let p := { p with linkTimer := some (Timer.start (s.cfg (.linkPeriod m))) }
    match phase with
    | .resetFrames elapsed =>
      if elapsed + t.period < Config.resetFramesTime then
        (s.setPort m { p.sendKind .reset with phase := some (.resetFrames (elapsed + t.period)) }, [])
      else (s.setPort m { p.sendKind .enquiry with phase := some (.enquiry 1) }, [])
    | .enquiry sent =>
      if sent < Config.maxEnquiries then
        (s.setPort m { p.sendKind .enquiry with phase := some (.enquiry (sent + 1)) }, [])
      else
        ((s.setPort m { p with linkTimer := none, phase := none }).changePort m .disabled .resetFailed, [])
  | _, _, _ => (s, [])

/-- A presence line has held a new level for 20 ms (R127). -/
def State.presenceTaken (s : State) (m : Motion) (active : Bool) : State × List Act :=
  let p := s.ports.get m
  match active, p.state with
  | true, .detached => (s.changePort m .attached .presenceOn, [])
  | false, .enabled => s.leaveEnabled m .detached .presenceOff [.sample (.driveLost m) true none]
  | false, .attached => (s.changePort m .detached .presenceOff, [])
  | false, .disabled => (s.changePort m .detached .presenceOff, [])
  | false, .resetting =>
    ((s.setPort m { p with linkTimer := none, phase := none }).changePort m .detached .presenceOff, [])
  | _, _ => (s, [])

/-- The expiry of a port's brake watch timer: a breach while the command is SET and unconfirmed (R137, R138). -/
def State.watchExpiry (s : State) (m : Motion) : State × List Act :=
  let p := s.ports.get m
  match p.watch.timer with
  | none => (s, [])
  | some _ =>
    if p.watch.command = .apply ∧ p.watch.confirmed = false then
      (s.setPort m { p with watch := { p.watch with timer := none, inBreach := true } },
        [.sample .brakeMismatch true (some (portNumber m))])
    else (s.setPort m { p with watch := { p.watch with timer := none } }, [])

end Sys2Proof.Machine
end

