-- ==== Sys2Proof/Machine/MotionChannels.lean ====
section
/-!
DEFINITION. The Motion Channels (chapter 5): hold sources, parking, opening, closing, demands, the reference update and
replies of the hoist, drag and swing channels, and HOLD_EFFECTIVE.
-/

namespace Sys2Proof.Machine

/-- A channel record by its axis. -/
def State.channel (s : State) (a : Axis) : Channel := s.channels.get a

/-- Some hold source is present. -/
def Holds.any (h : Holds) : Bool := h.holdAll || h.alarm || h.walk || h.unreferenced

/-- The hold source set of a channel as the machine now stands (R80). -/
def State.holdSet (s : State) (c : Channel) : Holds where
  holdAll := s.holdAll
  alarm := c.alarmHold
  walk := s.walk.state.holdsChannels
  unreferenced := c.mode == .follow && !s.allReferenced

/-! ### Changes of state -/

/-- What an entry into CLOSED does to the record (R87). -/
def Channel.close (c : Channel) (cause : HaltCause) : Channel :=
  { c with
    state := .closed, reference := 0, permitted := 0, enable := false, brake := .apply, demand := 0
    expired := false, demandTimer := none, openTimer := none, restTimer := none, lastCause := some cause }

/-- Every entry into CLOSED: the record, HALTED_x (or OPEN_FAILED for that cause), the DEMAND_LOST_x sample, and the
change of state handed on (R87, R93). The record and the flag stand before the sample acts, and the sample acts before the
change is handed on: R87 and R93 do not order them (DESIGN CHOICE, assumption log 27). -/
def State.closeTo (s : State) (a : Axis) (cause : HaltCause) : State × List Act :=
  let s := s.setChannel a ((s.channel a).close cause)
  let s := if cause = .openFailed then s.setFlag .openFailed else s.setFlag (.halted a.motion)
  (s, [.sample (.demandLost a) false none, .channelChanged a])

/-- The entry into OPENING (R73). -/
def State.enterOpening (s : State) (a : Axis) : State × List Act :=
  (s.setChannel a
    { s.channel a with
      state := .opening, enable := true, brake := .release, reference := 0, permitted := 0
      openTimer := some s.brakeTimer },
    [.channelChanged a])

/-- A rest timer for a stopping sequence that begins at reference 0 (R82). -/
def State.restTimerAt (s : State) (reference : Int) : Option Timer :=
  if reference = 0 then some s.brakeTimer else none

/-- The entry into PARKING from OPENING or RUNNING (R73, R81, R82). -/
def State.enterParking (s : State) (a : Axis) : State × List Act :=
  let c := s.channel a
  (s.setChannel a
    { c with state := .parking, permitted := 0, openTimer := none, restTimer := s.restTimerAt c.reference },
    [.channelChanged a])

/-- The entry into CLOSING at a CLOSE; one taken from PARKING keeps its rest timer (R82, R85). -/
def State.enterClosing (s : State) (a : Axis) : State × List Act :=
  let c := s.channel a
  (s.setChannel a
    { c with
      state := .closing, permitted := 0, demand := 0, expired := false, demandTimer := none, openTimer := none
      restTimer := if c.state = .parking then c.restTimer else s.restTimerAt c.reference },
    [.channelChanged a])

/-- The entry into PARKED from PARKING (R84). The change of state is handed on first, so that a pending commit can complete in
PARKED, and the look at the hold source set follows: R64, R84 and R93 do not order them (DESIGN CHOICE, assumption log 31). -/
def State.enterParked (s : State) (a : Axis) : State × List Act :=
  (s.setChannel a { s.channel a with state := .parked, enable := false, reference := 0, permitted := 0 },
    [.channelChanged a, .parkedLook a])

/-- A PARKED channel by its hold source set: empty opens, UNREFERENCED closes, any other stays (R84). -/
def State.lookParked (s : State) (a : Axis) : State × List Act :=
  let c := s.channel a
  if c.state ≠ .parked then (s, [])
  else if c.holds.any = false then s.enterOpening a
  else if c.holds.unreferenced then s.closeTo a .unreferenced
  else (s, [])

/-- A channel re-forms its hold source set and acts on the change by its state (R80, R81). -/
def State.reform (s : State) (a : Axis) : State × List Act :=
  let c := s.channel a
  let now := s.holdSet c
  let s := s.setChannel a { c with holds := now }
  match c.state with
  | .opening => if c.holds.any = false ∧ now.any = true then s.enterParking a else (s, [])
  | .running => if c.holds.any = false ∧ now.any = true then s.enterParking a else (s, [])
  | .parked => if now = c.holds then (s, []) else s.lookParked a
  | .closed => (s, [])
  | .parking => (s, [])
  | .closing => (s, [])

/-- The consequence set reaches a channel: derate term and ALARM hold kept, hold sources re-formed (R43, R80, R169). -/
def State.receiveAt (s : State) (a : Axis) : State × List Act :=
  let set := s.table.consequence
  (s.setChannel a
    { s.channel a with derate := set.derate.get a.motion, alarmHold := set.hold.get a.motion }).reform a

/-- The trip, at a channel: one not CLOSED closes and hands its port a final frame (R89). -/
def State.tripAt (s : State) (a : Axis) : State × List Act :=
  if (s.channel a).state = .closed then (s, [])
  else
    let (s, acts) := s.closeTo a .trip
    (s.sendFinal a.motion, acts)

/-- The loss of a channel's port: one not CLOSED closes with cause PORT (R88). -/
def State.portLostAt (s : State) (a : Axis) : State × List Act :=
  if (s.channel a).state = .closed then (s, []) else s.closeTo a .port

/-! ### Replies (R73, R83) -/

/-- A good reply at a channel (R83). -/
def State.replyAt (s : State) (a : Axis) (d : DriveStatus) : State × List Act :=
  let c := s.channel a
  match c.state with
  | .opening =>
    if d.ready && d.brakeOpen then
      (s.setChannel a { c with state := .running, openTimer := none }, [.channelChanged a])
    else (s, [])
  | .parking =>
    if d.atRest = true ∧ c.reference = 0 ∧ c.brake = .release then
      (s.setChannel a { c with brake := .apply, restTimer := none }, [])
    else if d.brakeSet = true ∧ c.brake = .apply then s.enterParked a
    else (s, [])
  | .closing =>
    if d.atRest = true ∧ c.reference = 0 ∧ c.brake = .release then
      (s.setChannel a { c with brake := .apply, restTimer := none }, [])
    else if d.brakeSet = true ∧ c.brake = .apply then s.closeTo a .close
    else (s, [])
  | .closed => (s, [])
  | .running => (s, [])
  | .parked => (s, [])

/-! ### Timers -/

/-- The expiry of a channel's open timer in OPENING is a failed opening (R74). -/
def State.openExpiry (s : State) (a : Axis) : State × List Act :=
  let c := s.channel a
  if c.state = .opening ∧ c.openTimer.isSome = true then s.closeTo a .openFailed else (s, [])

/-- The expiry of a channel's rest timer with brake command OPEN sets the brake command SET (R82). -/
def State.restExpiry (s : State) (a : Axis) : State :=
  let c := s.channel a
  if c.restTimer.isSome then
    s.setChannel a { c with restTimer := none, brake := if c.brake = .release then .apply else c.brake }
  else s

/-- The expiry of a channel's demand timer (R76). -/
def State.demandExpiry (s : State) (a : Axis) : State × List Act :=
  let c := s.channel a
  if c.demandTimer.isSome then
    (s.setChannel a { c with demand := 0, expired := true, demandTimer := none }, [.sample (.demandLost a) true none])
  else (s, [])

/-- A DEMAND at one channel: an open channel stores it, clears its expired mark and restarts its timer (R75). -/
def State.takeDemand (s : State) (a : Axis) (v : Int) : State × List Act :=
  let c := s.channel a
  if c.state.isOpen then
    (s.setChannel a { c with demand := v, expired := false, demandTimer := some s.demandTimer },
      if c.expired then [.sample (.demandLost a) false none] else [])
  else (s, [])

/-! ### The reference update (R77) -/

/-- The update of a channel: its record after it, and what it hands to its port (R77, R78, R82). In PARKING and CLOSING the
update that brings the reference to 0 starts the rest timer. Where the reference was 0 at the entry the timer was started there,
and the first update that hands 0 leaves it running: R82 gives both starts and does not say whether the update starts it anew
(DESIGN CHOICE, assumption log 36). -/
def State.channelUpdate (s : State) (a : Axis) : State × Handed :=
  let c := s.channel a
  match c.state with
  | .closed => (s, Handed.rest)
  | .parked => (s, Handed.rest)
  | .opening => (s, ⟨0, true, .release⟩)
  | .running =>
    let p := s.permittedValue a c
    let r := s.newReference a c p
    (s.setChannel a { c with permitted := p, reference := r }, ⟨r, true, .release⟩)
  | .parking =>
    let r := s.newReference a c 0
    (s.setChannel a
      { c with permitted := 0, reference := r, restTimer := if c.reference ≠ 0 ∧ r = 0 then some s.brakeTimer else c.restTimer },
      ⟨r, true, c.brake⟩)
  | .closing =>
    let r := s.newReference a c 0
    (s.setChannel a
      { c with permitted := 0, reference := r, restTimer := if c.reference ≠ 0 ∧ r = 0 then some s.brakeTimer else c.restTimer },
      ⟨r, true, c.brake⟩)

/-! ### HOLD_EFFECTIVE (R92) and MAINT_MOTION (R93, R122) -/

/-- HOLD_EFFECTIVE as the machine now stands (R92). -/
def State.holdEffectiveNow (s : State) : Bool := s.holdAll && s.allResting && s.walk.state == .idle

/-- An evaluation of HOLD_EFFECTIVE: the event flag is set where it becomes true (R92). -/
def State.evaluateHold (s : State) : State :=
  let now := s.holdEffectiveNow
  let t := { s with holdEffective := now }
  if now && !s.holdEffective then t.setFlag .holdEffective else t

/-- A channel is open in MAINT mode (R93). -/
def Channel.openInMaint (c : Channel) : Bool := c.mode == .maint && c.state.isOpen

/-- The raw value of MAINT_MOTION (R93, R122). -/
def State.maintMotionRaw (s : State) : Bool :=
  s.channels.hoist.openInMaint || s.channels.drag.openInMaint || s.channels.swing.openInMaint ||
    s.walk.state == .maint || (s.walk.state == .opening && s.walk.target == some .maint)

end Sys2Proof.Machine
end

