-- ==== Sys2Proof/Machine/WalkSequencer.lean ====
section
/-!
DEFINITION. The Walk Sequencer (chapter 6): cam phases, walk checks, stepping, halts, closing, trips, recovery and the
walk reference update.
-/

namespace Sys2Proof.Machine

/-- Cam phases (R104). -/
inductive CamPhase
  | shoeDown
  | liftStride
  | setdown
  | ret
  deriving DecidableEq, Repr

/-- The cam phase of a tooth count (R104). -/
def camPhase (t : Teeth) : CamPhase :=
  if t.toNat < 16 then .shoeDown
  else if t.toNat < 32 then .liftStride
  else if t.toNat < 48 then .setdown
  else .ret

/-- The cam angle in au: teeth times 64 (R11). -/
def State.camAngle (s : State) : Nat := s.asu.teeth.toNat * 64

/-- The approach zone: teeth 60 to 63 (R104). -/
def State.inApproach (s : State) : Bool := 60 ≤ s.asu.teeth.toNat

/-- Some halt source is present (R111). -/
def Halts.any (h : Halts) : Bool := h.holdAll || h.alarm

/-! ### Walk checks (R105) -/

/-- A leg's window allows the machine at the present swing angle in ACTIVE (R26). -/
def State.legFits (s : State) (l : Leg) : Bool := s.banks.active.legAllowed l.window s.angle

/-- Check 5: the bucket is in the carry box. -/
def State.inCarryBox (s : State) : Bool :=
  decide (s.cfg .carryDmin ≤ s.payoutD) && decide (s.payoutD ≤ s.cfg .carryDmax) &&
    decide (s.cfg .carryHmin ≤ s.payoutH) && decide (s.payoutH ≤ s.cfg .carryHmax)

/-- Check 6: tilt is not stale, and roll and pitch are within their limits. -/
def State.tiltFits (s : State) : Bool :=
  !s.asu.stale && decide (s.asu.roll.natAbs ≤ s.cfg .rollLimit) && decide (s.asu.pitch.natAbs ≤ s.cfg .pitchLimit)

/-- Check 7: the head leg's window allows the machine; a plan without a head leg fails it. -/
def State.headFits (s : State) : Bool :=
  match s.plan with
  | l :: _ => s.legFits l
  | [] => false

/-- A sample of WALK_PRECONDITION for a failed check (R106). -/
def walkFailure (check : Int) : Act := .sample .walkPrecondition true (some check)

/-- A sample of WALK_PRECONDITION false (R106). -/
def walkPass : Act := .sample .walkPrecondition false none

/-! ### Entries -/

/-- The entry into IDLE (R115). -/
def WalkChannel.idleRecord (w : WalkChannel) (cause : HaltCause) : WalkChannel :=
  { w with
    state := .idle, target := none, run := none, closing := none, demand := 0, demandTimer := none
    permitted := 0, reference := 0, enable := false, brake := .apply, openTimer := none, restTimer := none
    lastCause := some cause }

/-- Every entry into IDLE: HALTED_W for every cause but OPEN_FAILED, which sets that flag (R108, R115). -/
def State.walkToIdle (s : State) (cause : HaltCause) : State × List Act :=
  let s := s.setWalk (s.walk.idleRecord cause)
  let s := if cause = .openFailed then s.setFlag .openFailed else s.setFlag (.halted .walk)
  (s, [.walkChanged])

/-- Every entry into STOPPED: brake set, cam where it stands, WALK_STOPPED set (R117). -/
def State.walkToStopped (s : State) (cause : HaltCause) : State × List Act :=
  ((s.setWalk
    { s.walk with
      state := .stopped, target := none, run := none, closing := none, permitted := 0, reference := 0
      enable := false, brake := .apply, openTimer := none, restTimer := none, lastCause := some cause }).setFlag
      .walkStopped,
    [.walkChanged])

/-- Every entry into CLOSING: from park the reference is 0 at once; otherwise it ramps (R115). An open timer that ran is stopped:
R108 and R115 do not say whether a halted opening stops it (DESIGN CHOICE, assumption log 34). -/
def State.walkToClosing (s : State) (origin : ClosingOrigin) (cause : HaltCause) : State × List Act :=
  let w := s.walk
  let reference := match origin with
    | .park => 0
    | .other => w.reference
  (s.setWalk
    { w with
      state := .closing, target := none, run := none, closing := some ⟨origin, cause⟩, demand := 0
      demandTimer := none, permitted := 0, reference := reference, openTimer := none
      restTimer := s.restTimerAt reference },
    [.walkChanged])

/-- The entry into OPENING with a target and the run to be made (R105, R107, R118, R120). -/
def State.walkToOpening (s : State) (target : WalkTarget) (run : Option WalkRun) : State × List Act :=
  (s.setWalk
    { s.walk with
      state := .opening, target := some target, run := run, enable := true, brake := .release, reference := 0
      permitted := 0, openTimer := some s.brakeTimer },
    [.walkChanged])

/-- The entry into HALTING with its run, the recovery mark clear (R112). -/
def State.walkToHalting (s : State) (dir : CamDir) (counted : Bool) : State × List Act :=
  (s.setWalk { s.walk with state := .halting, target := none, run := some ⟨dir, counted, false⟩, openTimer := none },
    [.walkChanged])

/-- A plain run: forward, counted, no recovery (R105, R110). -/
def WalkRun.plain : WalkRun := ⟨.forward, true, false⟩

/-- The recovery run by the cam phase (R118). -/
def recoveryRun (t : Teeth) : WalkRun :=
  match camPhase t with
  | .shoeDown => ⟨.reverse, false, true⟩
  | .liftStride => ⟨.forward, true, true⟩
  | .setdown => ⟨.forward, true, true⟩
  | .ret => ⟨.forward, true, true⟩

/-! ### Halts (R108, R112, R114, R121) -/

/-- A halt with its cause in OPENING: STEP and MAINT close, RECOVER becomes HALT with its run kept (R108). -/
def State.haltOpening (s : State) (cause : HaltCause) : State × List Act :=
  match s.walk.target with
  | some .recover => (s.setWalk { s.walk with target := some .halt }, [])
  | some .halt => (s, [])
  | some .step => s.walkToClosing .other cause
  | some .maint => s.walkToClosing .other cause
  | none => (s, [])

/-- A halt in STEPPING by the cam phase (R112). -/
def State.haltStepping (s : State) : State × List Act :=
  if s.atPark then s.walkToClosing .park .halt
  else
    match camPhase s.asu.teeth with
    | .shoeDown => s.walkToHalting .reverse false
    | .liftStride => s.walkToHalting .forward true
    | .setdown => s.walkToHalting .forward true
    | .ret => s.walkToHalting .forward true

/-- A halt source arriving, WALK_HALT (cause HALT) or CLOSE (cause CLOSE) at the walk channel in OPENING, STEPPING or
MAINT; it changes nothing in the other states (R111, R114). -/
def State.haltWalk (s : State) (cause : HaltCause) : State × List Act :=
  match s.walk.state with
  | .opening => s.haltOpening cause
  | .stepping => s.haltStepping
  | .maint => s.walkToClosing .other cause
  | .idle => (s, [])
  | .halting => (s, [])
  | .stopped => (s, [])
  | .closing => (s, [])

/-- The walk re-forms its halt source set, and halts when it becomes not empty (R111). -/
def State.reformHalts (s : State) : State × List Act :=
  let w := s.walk
  let now : Halts := ⟨s.holdAll, w.alarmHold⟩
  let s := s.setWalk { w with halts := now }
  if w.halts.any = false ∧ now.any = true then s.haltWalk .halt else (s, [])

/-- The consequence set reaches the walk channel (R109, R111, R169). -/
def State.receiveAtWalk (s : State) : State × List Act :=
  let set := s.table.consequence
  (s.setWalk { s.walk with derate := set.derate.walk, alarmHold := set.hold.walk }).reformHalts

/-! ### Trips and the loss of P3 (R116, R119) -/

/-- The trip, at the walk channel: its state decides between STOPPED and IDLE; a state that changes hands P3 a final
frame (R116). -/
def State.tripAtWalk (s : State) : State × List Act :=
  let stop : State × List Act :=
    let (s, acts) := s.walkToStopped .trip
    (s.sendFinal .walk, acts)
  let idle : State × List Act :=
    let (s, acts) := s.walkToIdle .trip
    (s.sendFinal .walk, acts)
  match s.walk.state with
  | .idle => (s, [])
  | .stopped => (s, [])
  | .stepping => stop
  | .halting => stop
  | .maint => idle
  | .opening => if s.walk.target = some .maint then idle else stop
  | .closing =>
    match s.walk.closing with
    | some ⟨.park, _⟩ => if s.atPark then idle else stop
    | some ⟨.other, _⟩ => idle
    | none => idle

/-- The loss of P3: a walk channel not IDLE enters IDLE with cause PORT, HALTED_W and WALK_STOPPED set (R119). -/
def State.portLostAtWalk (s : State) : State × List Act :=
  if s.walk.state = .idle then (s, [])
  else
    let (s, acts) := s.walkToIdle .port
    (s.setFlag .walkStopped, acts)

/-- Check 7 at the entry into STEPPING, after check 4 (R107). -/
def State.stepEntryFailure (s : State) : Option Int :=
  if !s.allResting then some 4 else if !s.headFits then some 7 else none

/-- The confirming reply in OPENING, by its target (R107). At a failed check the channel enters CLOSING or STOPPED before the
sample of WALK_PRECONDITION acts (DESIGN CHOICE, assumption log 21), and the sample acts before the change of state is handed
on (DESIGN CHOICE, assumption log 32): R106, R107 and R122 leave both orders open. A reverse recovery run confirmed at park has
its change to STEPPING handed on before the park arrival of that entry is taken: R118 and R122 do not order them (DESIGN
CHOICE, assumption log 33). -/
def State.walkConfirmed (s : State) : State × List Act :=
  let s := s.setWalk { s.walk with openTimer := none }
  match s.walk.target with
  | some .step =>
    match s.stepEntryFailure with
    | some n =>
      let (s, acts) := s.walkToClosing .other .precondition
      (s, walkFailure n :: acts)
    | none => (s.setWalk { s.walk with state := .stepping, target := none }, [.walkChanged])
  | some .recover =>
    if s.allResting then
      let again : List Act :=
        if s.walk.run.any (fun r => decide (r.dir = .reverse)) && s.atPark then [.parkArrival .reverse] else []
      (s.setWalk { s.walk with state := .stepping, target := none }, .walkChanged :: again)
    else
      let (s, acts) := s.walkToStopped .precondition
      (s, walkFailure 4 :: acts)
  | some .halt =>
    if s.allResting then
      match s.walk.run with
      | some r =>
        let (s, acts) := s.walkToHalting r.dir r.counted
        (s, acts)
      | none => (s, [])
    else
      let (s, acts) := s.walkToStopped .precondition
      (s, walkFailure 4 :: acts)
  | some .maint => (s.setWalk { s.walk with state := .maint, target := none }, [.walkChanged])
  | none => (s, [])

/-- The brake_set reply that ends CLOSING, by its origin and the cam (R115). -/
def State.walkClosed (s : State) : State × List Act :=
  match s.walk.closing with
  | some ⟨.park, cause⟩ => if s.atPark then s.walkToIdle cause else s.walkToStopped cause
  | some ⟨.other, cause⟩ => s.walkToIdle cause
  | none => (s, [])

/-- A good reply at the walk channel (R107, R115, R121). In CLOSING the reference that at_rest is judged by is the record's:
after an entry from park it is 0 at once, though P3 has not yet been handed 0 (DEDUCED, assumption log 22). -/
def State.replyAtWalk (s : State) (d : DriveStatus) : State × List Act :=
  let w := s.walk
  match w.state with
  | .opening => if d.ready && d.brakeOpen then s.walkConfirmed else (s, [])
  | .closing =>
    if d.atRest = true ∧ w.reference = 0 ∧ w.brake = .release then
      (s.setWalk { w with brake := .apply, restTimer := none }, [])
    else if d.brakeSet = true ∧ w.brake = .apply then s.walkClosed
    else (s, [])
  | .idle => (s, [])
  | .stepping => (s, [])
  | .halting => (s, [])
  | .stopped => (s, [])
  | .maint => (s, [])

/-! ### Park arrivals (R110, R113) -/

/-- The count of a step at a forward arrival of a counted run: the head leg's steps done increases, and the leg is
removed with LEG_DONE when they reach its steps (R99, R110, R113). -/
def State.countStep (s : State) (dir : CamDir) : State × List Act :=
  match dir, s.walk.run, s.plan with
  | .forward, some r, l :: rest =>
    if r.counted then
      if l.stepsDone + 1 = l.steps then ((s.setPlan rest).setFlag .legDone, [.commitTest])
      else (s.setPlan ({ l with stepsDone := l.stepsDone + 1 } :: rest), [])
    else (s, [])
  | _, _, _ => (s, [])

/-- A park arrival at the Walk Sequencer: in STEPPING it counts and decides; in HALTING it counts and ends the halt when
it is in the run's direction; in every other state it changes nothing (R110, R113, R121). -/
def State.arriveAtPark (s : State) (dir : CamDir) : State × List Act :=
  match s.walk.state with
  | .stepping =>
    let (s, acts) := s.countStep dir
    (s, acts ++ [.parkDecide dir])
  | .halting =>
    if s.walk.run.any (fun r => decide (r.dir = dir)) then
      let (s, acts) := s.countStep dir
      (s, acts ++ [.haltClose])
    else (s, [])
  | .idle => (s, [])
  | .opening => (s, [])
  | .stopped => (s, [])
  | .maint => (s, [])
  | .closing => (s, [])

/-- The decision at a park arrival in STEPPING: tilt, carry box, plan and window, else on with a plain run (R110). At a failed
recheck the channel enters CLOSING before the sample of WALK_PRECONDITION acts (DESIGN CHOICE, assumption log 21), and the
sample acts before the change of state is handed on (DESIGN CHOICE, assumption log 32): R110 and R122 leave both orders open. -/
def State.decideAtPark (s : State) (dir : CamDir) : State × List Act :=
  if s.walk.state ≠ .stepping then (s, [])
  else if !s.tiltFits then
    let (s, acts) := s.walkToClosing .park .precondition
    (s, walkFailure 6 :: acts)
  else if !s.inCarryBox then
    let (s, acts) := s.walkToClosing .park .precondition
    (s, walkFailure 5 :: acts)
  else if s.plan.isEmpty then s.walkToClosing .park .planDone
  else if !s.headFits then s.walkToClosing .park .paused
  else
    let reference := match dir with
      | .forward => s.walk.reference
      | .reverse => 0
    (s.setWalk { s.walk with run := some WalkRun.plain, reference := reference }, [])

/-- The end of a halt at its park arrival (R113 step 2). -/
def State.endHalt (s : State) : State × List Act :=
  if s.walk.state = .halting then s.walkToClosing .park .halt else (s, [])

/-! ### The walk reference update (R104, R109) -/

/-- A stop at park is due (R104). -/
def State.stopDue (s : State) : Bool :=
  match s.walk.state, s.walk.run with
  | .halting, some r => r.dir == .forward
  | .stepping, some r =>
    if r.dir == .forward && r.recovery then true
    else if r.dir == .forward then
      match s.plan with
      | [] => false
      | [l] => l.stepsDone + 1 == l.steps
      | l :: second :: _ => l.stepsDone + 1 == l.steps && !s.legFits second
    else false
  | _, _ => false

/-- The head leg speed, WALK_CREEP when the plan has no head leg (R109). -/
def State.headSpeed (s : State) : Int :=
  match s.plan with
  | l :: _ => l.speed
  | [] => s.cfg .walkCreep

/-- The permitted value of a run, before the approach limit (R109). -/
def State.runPermitted (s : State) (r : WalkRun) : Int :=
  let creep : Int := s.cfg .walkCreep
  let derate : Int := s.walk.derate
  match r.dir with
  | .reverse => -(min creep derate)
  | .forward =>
    if r.recovery then min s.headSpeed (min derate creep) else min s.headSpeed derate

/-- The permitted value of the walk channel at an update (R48, R109). -/
def State.walkPermitted (s : State) : Int :=
  let creep : Int := s.cfg .walkCreep
  let limited (p : Int) : Int := if s.stopDue && s.inApproach && decide (0 < p) then min p creep else p
  match s.walk.state, s.walk.run with
  | .stepping, some r => limited (s.runPermitted r)
  | .halting, some r => limited (s.runPermitted r)
  | .maint, _ => signed s.walk.demand (min (magnitude s.walk.demand) (min creep s.walk.derate))
  | _, _ => 0

/-- The walk reference ramped by R78 without limit stop (R109). -/
def State.walkRamp (s : State) (p : Int) : Int :=
  ramp (s.cfg (.accelStep .walk)) (s.cfg (.decelStep .walk)) s.walk.reference p

/-- The update of the walk channel: its record after it, and what it hands to P3 (R109, R115). -/
def State.walkUpdate (s : State) : State × Handed :=
  let w := s.walk
  let moving : State × Handed :=
    let p := s.walkPermitted
    let r := s.walkRamp p
    (s.setWalk { w with permitted := p, reference := r }, ⟨r, true, .release⟩)
  match w.state with
  | .idle => (s, Handed.rest)
  | .stopped => (s, Handed.rest)
  | .opening => (s, ⟨0, true, .release⟩)
  | .stepping => moving
  | .halting => moving
  | .maint => moving
  | .closing =>
    let r := s.walkRamp 0
    (s.setWalk
      { w with
        permitted := 0, reference := r
        restTimer := if w.reference ≠ 0 ∧ r = 0 then some s.brakeTimer else w.restTimer },
      ⟨r, true, w.brake⟩)

/-! ### Timers and demand -/

/-- The expiry of the walk open timer, by the target (R108). -/
def State.walkOpenExpiry (s : State) : State × List Act :=
  if s.walk.state = .opening ∧ s.walk.openTimer.isSome = true then
    match s.walk.target with
    | some .recover => (s.setFlag .openFailed).walkToStopped .openFailed
    | some .halt => (s.setFlag .openFailed).walkToStopped .openFailed
    | some .step => s.walkToIdle .openFailed
    | some .maint => s.walkToIdle .openFailed
    | none => s.walkToIdle .openFailed
  else (s, [])

/-- The expiry of the walk rest timer with brake command OPEN sets it SET (R115). -/
def State.walkRestExpiry (s : State) : State :=
  let w := s.walk
  if w.restTimer.isSome then
    s.setWalk { w with restTimer := none, brake := if w.brake = .release then .apply else w.brake }
  else s

/-- The expiry of the walk demand timer: the demand becomes 0; no condition is sampled (R121). -/
def State.walkDemandExpiry (s : State) : State :=
  if s.walk.demandTimer.isSome then s.setWalk { s.walk with demand := 0, demandTimer := none } else s

/-- The w value of a DEMAND: stored in MAINT and in OPENING with target MAINT (R121). -/
def State.takeWalkDemand (s : State) (v : Int) : State :=
  let w := s.walk
  if w.state = .maint ∨ (w.state = .opening ∧ w.target = some .maint) then
    s.setWalk { w with demand := v, demandTimer := some s.demandTimer }
  else s

end Sys2Proof.Machine
end

