-- ==== Sys2Proof/Machine/ConfigBanks.lean ====
section
/-!
DEFINITION. Commit validation, the safe condition and the completion of a commit (R61 to R64), with what the Supervisor
does at a completion (R179).
-/

namespace Sys2Proof.Machine

/-! ### Validation (R62) -/

/-- An enabled window names a sector record (R22). -/
def Bank.namesSector (b : Bank) (i : Fin 9) : Bool :=
  windowNumbers.any fun w => (b.window w).enable && (b.window w).sector.val == i.val

/-- The sector numbers, SR0 to SR7 and then SRD. -/
def sectorNumbers : List (Fin 9) := [0, 1, 2, 3, 4, 5, 6, 7, 8]

/-- The reachable sectors in the order SR0 to SR7, then SRD, which always is (R22, R62). -/
def Bank.reachable (b : Bank) : List (Fin 9) := sectorNumbers.filter fun i => i == srd || b.namesSector i

/-- The referenced curves: each reachable sector's ceiling, then floor, and then the braking curve (R62). -/
def Bank.referencedCurves (b : Bank) : List (Fin 16) :=
  (b.reachable.flatMap fun i => [(b.sector i).ceiling, (b.sector i).floor]) ++ [b.brake]

/-- The x values of a list of points are strictly increasing (R62). -/
def strictlyIncreasing : List Point → Bool
  | [] => true
  | [_] => true
  | p :: q :: rest => decide (p.x < q.x) && strictlyIncreasing (q :: rest)

/-- The test points of a sector for CURVES_CROSS: the x values of its curves' points, its Dmin and its Dmax (R62). -/
def Bank.crossPoints (b : Bank) (sec : Sector) : List Nat :=
  (b.curve sec.ceiling).points.map Point.x ++ (b.curve sec.floor).points.map Point.x ++ [sec.dmin, sec.dmax]

/-- The ceiling is at least 50 below the floor at a test point (R62). -/
def Bank.gapAt (b : Bank) (sec : Sector) (x : Nat) : Bool :=
  match b.hoistLimits sec x with
  | some (lo, hi) => decide (lo + Config.curveGap ≤ hi)
  | none => false

/-- The first failure of the validation, with its detail and index; none when every check passes (R62). -/
def Bank.validate (b : Bank) : Option (CommitDetail × Nat) :=
  match windowNumbers.find? (fun i => (b.window i).enable && !(b.window i).wellFormed) with
  | some i => some (.windowAlign, i.val)
  | none =>
    match b.referencedCurves.find? (fun i => !(b.curve i).isSet) with
    | some i => some (.curveUnset, i.val)
    | none =>
      match windowNumbers.find? (fun i => b.referencedCurves.contains i && !strictlyIncreasing (b.curve i).points) with
      | some i => some (.curveOrder, i.val)
      | none =>
        match b.reachable.find? (fun i => decide ((b.sector i).dmax ≤ (b.sector i).dmin)) with
        | some i => some (.sectorRange, i.val)
        | none =>
          match b.reachable.find? (fun i => !(b.crossPoints (b.sector i)).all (b.gapAt (b.sector i))) with
          | some i => some (.curvesCross, i.val)
          | none => none

/-! ### The safe condition (R63) -/

/-- The walk part: in STEPPING, HALTING and STOPPED the head leg's window in STAGED must allow the machine. -/
def State.walkPartHolds (s : State) : Bool :=
  if s.walk.state.holdsChannels then
    match s.plan with
    | l :: _ => s.banks.staged.legAllowed l.window s.angle
    | [] => false
  else true

/-- A test of the safe condition against STAGED: the first part that fails (R63). -/
def State.safeTest (s : State) : TestResult :=
  let b := s.banks.staged
  let rope : TestResult :=
    if s.allResting then .holding
    else if b.isNogo s.angle then .nogo
    else if b.containsAt s.angle s.payoutD s.payoutH then .holding
    else .envelope
  match rope with
  | .holding => if s.walkPartHolds then .holding else .legWindow
  | failing => failing

/-! ### Completion (R64, R179) -/

/-- The next generation, wrapping from 65535 to 1 (R52). -/
def nextGeneration (g : Nat) : Nat := if 65535 ≤ g then 1 else g + 1

/-- The Supervisor at a completion: START leaves for READY when the generation handed is 1, with SAFE_RUN high (R178, R179). -/
def State.handGeneration (s : State) (g : Nat) : State :=
  if s.sup.operating = .start ∧ g = 1 then
    (s.setSup { s.sup with operating := .ready }).setPins { s.pins with safeRun := true }
  else s

/-- The completion of a pending commit (R64). -/
def State.completeCommit (s : State) : State :=
  let g := nextGeneration s.banks.generation
  let s := s.setBanks
    { s.banks with active := s.banks.staged, generation := g, commit := none, outcome := some (.done g) }
  (s.setFlag .commitDone).handGeneration g

/-- A test of a pending commit: failing is recorded, holding completes it; with no commit pending nothing is tested
(R63, R64). -/
def State.testCommit (s : State) : State :=
  match s.banks.commit with
  | none => s
  | some p =>
    match s.safeTest with
    | .holding => s.completeCommit
    | failing => s.setBanks { s.banks with commit := some { p with lastTest := failing } }

/-- The expiry of the commit timer abandons a pending commit (R67). -/
def State.commitExpiry (s : State) : State :=
  match s.banks.commit with
  | none => s
  | some _ => (s.setBanks { s.banks with commit := none, outcome := some .abandoned }).setFlag .commitAbandoned

end Sys2Proof.Machine
end

