-- ==== Sys2Proof/Machine/AxisSensing.lean ====
section
/-!
DEFINITION. The Axis Sensing Unit (chapter 1): encoder edges, positions, references, the cam and the inclinometer.
-/

namespace Sys2Proof.Machine

/-- The scale setting of a rope axis (R3). -/
def scaleOf : Rope → Setting
  | .hoist => .hoistScale
  | .drag => .dragScale

/-- The range condition of a rope axis (R4). -/
def rangeCode : Rope → Code
  | .hoist => .hoistRange
  | .drag => .dragRange

/-- Every channel re-forms its hold source set, at a change of a referenced flag or of the HOLD_ALL flag, HOIST first and SWING
last, each with all it hands on before the next: R6, R8, R10, R80, R81 and R91 give no order (DESIGN CHOICE, assumption log
24). -/
def reformAll : List Act := [.reformChannel .hoist, .reformChannel .drag, .reformChannel .swing]

/-! ### Rope axes -/

/-- A drum count after an edge (R2). -/
def countEdge (n : Count32) : QuadEdge → Count32
  | .up => n + 1#32
  | .down => n - 1#32
  | .bothChannels => n

/-- The unsaturated payout: count difference modulo 2^32 as a signed value, times the scale, over 10000 truncated toward
zero, plus the reference payout (R3). -/
def unsaturated (x : RopeAxis) (scale : Nat) : Int :=
  ((x.count - x.refCount).toInt * scale).tdiv Config.microPerRopeUnit + x.refPayout

/-- A payout saturated to 0 to 20000 (R4). -/
def saturate (v : Int) : Nat := (clampInt 0 Config.maxPayout v).toNat

/-- The rope axis position at a sample arrival, with its range condition sample (R3, R4). -/
def State.formPayout (s : State) (r : Rope) : State × List Act :=
  let x := s.rope r
  if x.referenced then
    let v := unsaturated x (s.cfg (scaleOf r))
    let raw := decide (v < 0) || decide ((Config.maxPayout : Int) < v)
    (s.setRope r { x with payout := saturate v }, [.sample (rangeCode r) raw (some (clampValue v))])
  else (s, [.sample (rangeCode r) false (some x.payout)])

/-- A rope axis loses its reference; its payout holds (R6). -/
def State.unreferenceRope (s : State) (r : Rope) : State × List Act :=
  (s.setRope r { s.rope r with referenced := false }, reformAll)

/-! ### Swing -/

/-- A swing count after an edge, wrapping at SWING_CPT (R7). -/
def swingEdge (cpt n : Nat) : QuadEdge → Nat
  | .up => if cpt ≤ n + 1 then 0 else n + 1
  | .down => if n = 0 then cpt - 1 else n - 1
  | .bothChannels => n

/-- The swing angle from the count, the index count, SWING_CPT and SWING_INDEX_ANGLE (R9). -/
def swingAngle (cpt count index home : Nat) : Angle :=
  BitVec.ofNat 12 ((((count : Int) - index) % cpt).toNat * 4096 / cpt + home)

/-- The swing position at a sample arrival (R9). -/
def State.formAngle (s : State) : State :=
  let x := s.asu.swing
  if x.referenced then
    s.setAsu
      { s.asu with swing := { x with angle := swingAngle (s.cfg .swingCpt) x.count x.indexCount (s.cfg .swingIndexAngle) } }
  else s

/-- The swing axis loses its reference; its angle holds (R10). -/
def State.unreferenceSwing (s : State) : State × List Act :=
  (s.setAsu { s.asu with swing := { s.asu.swing with referenced := false } }, reformAll)

/-- A passage of the swing index mark (R8). -/
def State.passSwingIndex (s : State) : State × List Act :=
  let x := s.asu.swing
  let taken := { x with indexCount := x.count }
  if x.referenced || (s.definition (.encoderFault .swing)).active then
    (s.setAsu { s.asu with swing := taken }, [])
  else
    ((s.setAsu
      { s.asu with
        swing := { taken with referenced := true, angle := BitVec.ofNat 12 (s.cfg .swingIndexAngle) } }).setFlag
        .referenced,
      reformAll)

/-! ### All three -/

/-- The position of an axis at its sample arrival (R1 step 2, with step 3 for a rope axis). At a swing arrival SWING_IN_NOGO
is sampled before ENVELOPE_EXCURSION, which the arrival samples last: R25 and R150 leave their order open (DESIGN CHOICE,
assumption log 20). -/
def State.formAt (s : State) (a : Axis) : State × List Act :=
  match a with
  | .hoist => s.formPayout .hoist
  | .drag => s.formPayout .drag
  | .swing => (s.formAngle, [.nogoSample])

/-- The filtered state of ENCODER_FAULT_x reaches the ASU: active removes the reference (R6, R10, R149). -/
def State.faultAt (s : State) (a : Axis) : State × List Act :=
  if (s.definition (.encoderFault a)).active && s.isReferenced a then
    match a with
    | .hoist => s.unreferenceRope .hoist
    | .drag => s.unreferenceRope .drag
    | .swing => s.unreferenceSwing
  else (s, [])

/-- The sample of SWING_IN_NOGO at a swing sample arrival (R25). -/
def State.nogoAct (s : State) : Act :=
  .sample .swingInNogo (s.asu.swing.referenced && s.atNogo) (some s.angle.toNat)

/-- The sample of ENVELOPE_EXCURSION at an arrival, none while an axis is unreferenced (R150). -/
def State.envelopeActs (s : State) : List Act :=
  if s.allReferenced then
    [.sample .envelopeExcursion (!s.banks.active.containsAt s.angle s.payoutD s.payoutH)
      (some (s.banks.active.sectorNumber s.angle))]
  else []

/-! ### Cam -/

/-- The CAM_FILTER values of an index, in microseconds: off, 0.5 ms, 2 ms, 8 ms (R11, R17). -/
def camFilterMicros (index : Nat) : Nat :=
  match index with
  | 0 => 0
  | 1 => 500
  | 2 => 2000
  | _ => 8000

/-- The CAM_FILTER index in force before the last n of its taken writes, from the index now in force and those before each
write, the last first (R11). -/
def filterBefore : Nat → Nat → List Nat → Nat
  | 0, now, _ => now
  | _ + 1, now, [] => now
  | n + 1, _, old :: older => filterBefore n old older

/-- A cam pulse passes the filter: its levels have stood for at least the CAM_FILTER in force when it began (R11). -/
def State.camPasses (s : State) (p : Pulse) : Bool :=
  decide (camFilterMicros (filterBefore p.writesSince (s.cfg .camFilter) s.asu.oldFilters) ≤ p.stood)

/-- A tooth count after an edge (R11). -/
def toothEdge (t : Teeth) : CamDir → Teeth
  | .forward => t + 1#6
  | .reverse => t - 1#6

/-- A counted tooth edge; a reverse edge from 1 to 0 is a reverse park arrival (R11, R104). -/
def State.countTooth (s : State) (dir : CamDir) : State × List Act :=
  (s.setAsu { s.asu with teeth := toothEdge s.asu.teeth dir },
    if dir = .reverse ∧ s.asu.teeth = 1#6 then [.parkArrival .reverse] else [])

/-- A cam index passage: teeth set, an unreferenced cam referenced, CAM_SYNC sampled at a forward passage of a
referenced cam, and a forward passage handed on as a park arrival (R12, R104). -/
def State.passCamIndex (s : State) (dir : CamDir) : State × List Act :=
  let before := s.asu.teeth
  let teeth : Teeth := match dir with
    | .forward => 0#6
    | .reverse => 63#6
  let was := s.asu.camReferenced
  let s := s.setAsu { s.asu with teeth := teeth, camReferenced := true }
  let s := if was then s else s.setFlag .referenced
  match dir with
  | .forward =>
    (s, (if was then [.sample .camSync (before != 63#6) (some before.toNat)] else []) ++ [.parkArrival .forward])
  | .reverse => (s, [])

/-! ### Inclinometer -/

/-- An accepted tilt sample (R14). -/
def State.takeTilt (s : State) (pitch roll : Int) : State × List Act :=
  let p := clampInt (-Config.maxTilt) Config.maxTilt pitch
  let r := clampInt (-Config.maxTilt) Config.maxTilt roll
  (s.setAsu
    { s.asu with
      pitch := p, roll := r, stale := false, staleTimer := some (Timer.start (s.cfg .tiltStale)) },
    [.sample .inclinometerStale false none,
      .sample .tubRoll (decide (s.cfg .rollLimit < r.natAbs)) (some r),
      .sample .tubPitch (decide (s.cfg .pitchLimit < p.natAbs)) (some p)])

/-- One byte of the inclinometer line: 0x96 begins a frame, other bytes between frames are ignored, and the sixth
byte ends the frame, accepted or discarded (R14, R199). -/
def State.tiltByte (s : State) (b : Byte) : State × List Act :=
  let frame := s.asu.tiltFrame
  if frame.isEmpty && b != 0x96#8 then (s, [])
  else
    let whole := frame ++ [b]
    if whole.length < 6 then (s.setAsu { s.asu with tiltFrame := whole }, [])
    else
      let s := s.setAsu { s.asu with tiltFrame := [] }
      match readTiltFrame whole with
      | some (pitch, roll) => s.takeTilt pitch roll
      | none => (s, [])

/-- The expiry of the staleness timer, which restarts (R15). -/
def State.staleExpiry (s : State) : State × List Act :=
  if s.asu.staleTimer.isSome then
    (s.setAsu { s.asu with stale := true, staleTimer := some (Timer.start (s.cfg .tiltStale)) },
      [.sample .inclinometerStale true none])
  else (s, [])

end Sys2Proof.Machine
end

