-- ==== Sys2Proof/Machine/Cascade.lean ====
section
/-!
DEFINITION. The persistence filter (R148, R149), the Supervisor's trip (R180), and the performance of the deliveries that
an event hands from block to block, each in the order it was handed on.
-/

namespace Sys2Proof.Machine

/-! ### The persistence filter -/

/-- A raise of a code: ACTIVE with the value carried, codes 23 to 25 handed to the ASU, the raise delivered (R149). -/
def State.raiseCode (s : State) (c : Code) (d : Definition) (value : Option Int) : State × List Act :=
  (s.setDef c { d with active := true, run := 0, raiseValue := value },
    (match c with
      | .encoderFault a => [.faultState a]
      | _ => []) ++ [.tableRaise c])

/-- A clear of a code (R149). -/
def State.clearCode (s : State) (c : Code) (d : Definition) : State × List Act :=
  (s.setDef c { d with active := false, run := 0, raiseValue := none },
    (match c with
      | .encoderFault a => [.faultState a]
      | _ => []) ++ [.tableClear c])

/-- A sample of a code: agreement resets the run; opposition flips at once for P 0 or 1, and else at the P-th
opposing sample in a row (R148). -/
def State.takeSample (s : State) (c : Code) (raw : Bool) (value : Option Int) : State × List Act :=
  let d := s.definition c
  if raw = d.active then (s.setDef c { d with run := 0 }, [])
  else if d.persistence ≤ 1 ∨ d.run + 1 = d.persistence then
    (if raw then s.raiseCode c d value else s.clearCode c d)
  else (s.setDef c { d with run := d.run + 1 }, [])

/-! ### The Supervisor -/

/-- The consequence set reaches the Supervisor: the trip demand is recorded, and present in START or READY it enters
TRIPPED with SAFE_RUN low, then delivers the trip and sets TRIP (R180). -/
def State.receiveAtSupervisor (s : State) : State × List Act :=
  let demand := s.table.consequence.trip
  let s := s.setSup { s.sup with tripDemand := demand }
  if demand = true ∧ s.sup.operating ≠ .tripped then
    ((s.setSup { s.sup with operating := .tripped }).setPins { s.pins with safeRun := false },
      [.tripChannel .hoist, .tripChannel .drag, .tripChannel .swing, .tripWalk, .tripFlag])
  else (s, [])

/-! ### Performing deliveries -/

/-- What one delivery does, and what it hands on in its turn. Two orders here are the model's: a consequence set reaches the
three channels, then the walk, then the Supervisor, where R169 and 10.3.1 let the hold or the trip come first (DESIGN CHOICE,
assumption log 25); and a change of a channel's or of the walk's state is handed on in the order in which R93 and R122 list
its receivers, which they do not call an order (DESIGN CHOICE, assumption log 24). -/
def perform (act : Act) (s : State) : State × List Act :=
  match act with
  | .sample c raw value => s.takeSample c raw value
  | .maintSample => s.takeSample .maintMotion s.maintMotionRaw none
  | .faultState a => s.faultAt a
  | .tableRaise c => (s.raiseRecord c, [.deliver])
  | .tableClear c => (s.clearRecord c, [.deliver])
  | .deliver =>
    (s.endTableEvent,
      [.receiveChannel .hoist, .receiveChannel .drag, .receiveChannel .swing, .receiveWalk, .receiveSupervisor])
  | .receiveChannel a => s.receiveAt a
  | .receiveWalk => s.receiveAtWalk
  | .receiveSupervisor => s.receiveAtSupervisor
  | .reformChannel a => s.reform a
  | .reformWalk => s.reformHalts
  | .channelChanged _ => (s, [.commitTest, .holdEffective, .maintSample])
  | .walkChanged =>
    (s, [.reformChannel .hoist, .reformChannel .drag, .reformChannel .swing, .commitTest, .holdEffective, .maintSample])
  | .parkedLook a => s.lookParked a
  | .commitTest => (s.testCommit, [])
  | .holdEffective => (s.evaluateHold, [])
  | .tripChannel a => s.tripAt a
  | .tripWalk => s.tripAtWalk
  | .tripFlag => (s.setFlag .trip, [])
  | .portLost m =>
    match m with
    | .hoist => s.portLostAt .hoist
    | .drag => s.portLostAt .drag
    | .swing => s.portLostAt .swing
    | .walk => s.portLostAtWalk
  | .reply m d =>
    match m with
    | .hoist => s.replyAt .hoist d
    | .drag => s.replyAt .drag d
    | .swing => s.replyAt .swing d
    | .walk => s.replyAtWalk d
  | .beginWalk => s.walkToOpening .step (some WalkRun.plain)
  | .beginRecovery => s.walkToOpening (if s.walk.halts.any then .halt else .recover) (some (recoveryRun s.asu.teeth))
  | .formPosition a => s.formAt a
  | .nogoSample => (s, [s.nogoAct])
  | .envelopeSample => (s, s.envelopeActs)
  | .parkArrival dir => s.arriveAtPark dir
  | .parkDecide dir => s.decideAtPark dir
  | .haltClose => s.endHalt

/-- The deliveries of an event performed first to last, each followed at once by what it hands on, within a bound. -/
def run : Nat → List Act → State → State
  | 0, _, s => s
  | _ + 1, [], s => s
  | n + 1, act :: rest, s =>
    let (s', more) := perform act s
    run n (more ++ rest) s'

/-- The deliveries left when the bound is reached; Obligations.DeliveriesComeToAnEnd says there are none. -/
def leftover : Nat → List Act → State → List Act
  | 0, acts, _ => acts
  | _ + 1, [], _ => []
  | n + 1, act :: rest, s =>
    let (s', more) := perform act s
    leftover n (more ++ rest) s'

/-- The whole effect of an event: a state and the deliveries it hands on, performed. -/
def settle (r : State × List Act) : State := run Config.cascadeFuel r.2 r.1

/-- An event of the field lines or of a timer: nothing happens in a reset (R184), else its effect with all that it hands
on. -/
def State.event (s : State) (f : State → State × List Act) : State := if s.inReset then s else settle (f s)

end Sys2Proof.Machine
end

