-- ==== Sys2Proof/Machine/RequestPort.lean ====
section
/-!
DEFINITION. The Request Port (chapter 11): what every request does before and after its owner's rule, the payloads of the
replies (12.7, 12.8, 12.12) and the snapshot.
-/

namespace Sys2Proof.Machine

/-! ### Codes of the enumerated fields (12.4) -/

def ChannelState.code : ChannelState → Nat
  | .closed => 0
  | .opening => 1
  | .running => 2
  | .parking => 3
  | .parked => 4
  | .closing => 5

def WalkState.code : WalkState → Nat
  | .idle => 0
  | .opening => 1
  | .stepping => 2
  | .halting => 3
  | .stopped => 4
  | .maint => 5
  | .closing => 6

def HaltCause.code : HaltCause → Nat
  | .close => 1
  | .trip => 2
  | .port => 3
  | .openFailed => 4
  | .unreferenced => 5
  | .halt => 6
  | .paused => 7
  | .planDone => 8
  | .precondition => 9

/-- A last halt cause as reported: none is 0 (12.4). -/
def haltCode : Option HaltCause → Nat
  | none => 0
  | some c => c.code

def PortState.code : PortState → Nat
  | .detached => 0
  | .attached => 1
  | .resetting => 2
  | .enabled => 3
  | .disabled => 4

def PortCause.code : PortCause → Nat
  | .presenceOn => 1
  | .presenceOff => 2
  | .resetRequest => 3
  | .resetOk => 4
  | .resetFailed => 5
  | .misses => 6
  | .fault => 7
  | .disableRequest => 8

def OperatingState.code : OperatingState → Nat
  | .start => 0
  | .ready => 1
  | .tripped => 2

def ResetCause.code : ResetCause → Nat
  | .power => 1
  | .pin => 2
  | .request => 3

def RecordState.code : RecordState → Nat
  | .activeUnack => 0
  | .activeAck => 1
  | .clearedUnack => 2
  | .shelved => 3

def TestResult.code : TestResult → Nat
  | .holding => 0
  | .nogo => 1
  | .envelope => 2
  | .legWindow => 3

def Polarity.code : Polarity → Nat
  | .activeHigh => 0
  | .activeLow => 1

/-- A scope as its byte (12.4). -/
def scopeByte (x : PerMotion Bool) : Byte := bitsByte [x.hoist, x.drag, x.swing, x.walk]

/-! ### Requests -/

/-- What the owner of a request answers: the state after its own change, the deliveries it hands on, and the status
and payload of the response. -/
structure Answer where
  state : State
  acts : List Act
  status : Status
  payload : List Byte

/-- A refusal: no state changes, no payload (R188, 00_scope 3.4). -/
def refuse (s : State) (x : Status) : Answer := ⟨s, [], x, []⟩

/-- A request carried out with nothing handed on. -/
def reply (s : State) (payload : List Byte) : Answer := ⟨s, [], .ok, payload⟩

/-- A status OK, or OK_CLAMPED when a value was clamped. -/
def okOr (clamped : Bool) : Status := if clamped then .okClamped else .ok

/-- A good frame restarts the link watchdog; from LAPSED it samples LINK_LOST false (R182). -/
def State.restartWatchdog (s : State) : State × List Act :=
  (s.setSup { s.sup with lapsed := false, watchdog := some (Timer.start (s.cfg .linkTimeout)) },
    if s.sup.lapsed then [.sample .linkLost false none] else [])

/-- The response written into the buffer, replacing what was there (R186). -/
def State.respond (s : State) (r : Response) : State :=
  s.setRport { s.rport with buffer := r, previous := s.rport.buffer }

/-- The rise of select: the transaction ends (R186). -/
def State.selectRise (s : State) : State := s.setRport { s.rport with selectLow := false, untaken := false }

/-- The port takes no transaction during a reset, nor one whose select fell during a reset (R184, R187, R190). -/
def State.takesNothing (s : State) : Bool := s.inReset || s.rport.untaken

/-- A good frame, received: the transaction has ended and the watchdog is restarted before the request is carried
out (R182, R188). -/
def State.receiveFrame (s : State) : State := settle s.selectRise.restartWatchdog

/-- The response to an owner's answer, formed after the effects have been made (R186). -/
def State.finish (a : Answer) (tag code : Byte) : State :=
  (settle (a.state, a.acts)).respond ⟨tag, code, a.status, a.payload⟩

/-- A request of a code: not taken in a reset; a length that is not allowed is answered BAD_LENGTH; otherwise the owner
carries it out (R188). -/
def State.request (s : State) (h : Header) (code : Byte) (allowed : Bool) (owner : State → Answer) : State :=
  if s.takesNothing then s.selectRise
  else
    let s := s.receiveFrame
    if allowed then State.finish (owner s) h.tag code else s.respond ⟨h.tag, code, .badLength, []⟩

/-- The length field is the one length allowed (12.3). -/
def lengthIs (h : Header) (n : Nat) : Bool := h.len.toNat == n

/-! ### STATUS (R196, 12.7) -/

/-- Two port states in one byte (12.7). -/
def twoStates (hi lo : PortState) : Byte := byteOf (hi.code * 16 + lo.code)

/-- The 21 bytes of the STATUS payload. -/
def State.statusPayload (s : State) : List Byte :=
  [byteOf s.sup.operating.code, byteOf s.sup.cause.code] ++ nat16 s.banks.generation ++
  [bitsByte [s.banks.commit.isSome, s.holdAll, s.holdEffective, s.anyMark],
    byteOf s.channels.hoist.state.code, byteOf s.channels.drag.state.code, byteOf s.channels.swing.state.code,
    byteOf s.walk.state.code] ++
  [byteOf (haltCode s.channels.hoist.lastCause), byteOf (haltCode s.channels.drag.lastCause),
    byteOf (haltCode s.channels.swing.lastCause), byteOf (haltCode s.walk.lastCause)] ++
  [twoStates s.ports.hoist.state s.ports.drag.state, twoStates s.ports.swing.state s.ports.walk.state] ++
  bytes16 s.rport.flags ++
  [byteOf (s.table.countState .activeUnack), byteOf (s.table.countState .activeAck),
    byteOf (s.table.countState .clearedUnack), byteOf (s.table.countState .shelved)]

/-! ### The snapshot (R193, R194) -/

/-- What a snapshot takes of a channel. -/
def Channel.view (c : Channel) : ChannelView := ⟨c.state.code, c.demand, c.permitted, c.reference⟩

/-- What a snapshot takes of the walk channel. -/
def WalkChannel.view (w : WalkChannel) : ChannelView := ⟨w.state.code, w.demand, w.permitted, w.reference⟩

/-- The next capture number, wrapping from 65535 to 1 (R193). -/
def nextCapture (n : Nat) : Nat := if 65535 ≤ n then 1 else n + 1

/-- The items of a snapshot as they stand (R193). -/
def State.capture (s : State) : Snapshot where
  capture := nextCapture s.rport.snapshot.capture
  generation := s.banks.generation
  h := s.payoutH
  d := s.payoutD
  swingAngle := s.angle.toNat
  camAngle := s.camAngle
  pitch := s.asu.pitch
  roll := s.asu.roll
  stale := s.asu.stale
  referenced := ⟨s.asu.hoist.referenced, s.asu.drag.referenced, s.asu.swing.referenced, s.asu.camReferenced⟩
  channels := ⟨s.channels.hoist.view, s.channels.drag.view, s.channels.swing.view, s.walk.view⟩
  sector := s.banks.active.sectorNumber s.angle
  hoistOut := s.hoistMargins.pos
  hoistIn := s.hoistMargins.neg
  dragOut := s.dragMargins.pos
  dragIn := s.dragMargins.neg
  clockwise := reportedDistance (s.banks.active.distanceClockwise s.angle s.payoutD s.payoutH)
  counterClockwise := reportedDistance (s.banks.active.distanceCounter s.angle s.payoutD s.payoutH)

/-- The bytes of one channel in a SNAPSHOT_READ reply (12.12). -/
def ChannelView.bytes (v : ChannelView) : List Byte :=
  [byteOf v.state] ++ int16 v.demand ++ int16 v.permitted ++ int16 v.reference

/-- The payload of a SNAPSHOT_READ reply (R194, 12.12); none for a part above 3. -/
def Snapshot.part (x : Snapshot) (part : Nat) : Option (List Byte) :=
  let head := [byteOf part] ++ nat16 x.capture
  match part with
  | 0 =>
    some (head ++ nat16 x.generation ++ nat16 x.h ++ nat16 x.d ++ nat16 x.swingAngle ++ nat16 x.camAngle ++
      int16 x.pitch ++ int16 x.roll ++
      [bitsByte [x.stale, x.referenced.hoist, x.referenced.drag, x.referenced.swing, x.referenced.walk]])
  | 1 => some (head ++ x.channels.hoist.bytes ++ x.channels.drag.bytes)
  | 2 => some (head ++ x.channels.swing.bytes ++ x.channels.walk.bytes)
  | 3 =>
    some (head ++ [byteOf x.sector] ++ int16 x.hoistOut ++ int16 x.hoistIn ++ int16 x.dragOut ++ int16 x.dragIn ++
      nat16 x.clockwise ++ nat16 x.counterClockwise)
  | _ => none

end Sys2Proof.Machine
end

