-- ==== Sys2Proof/Machine/AlarmCommands.lean ====
section
/-!
DEFINITION. The meanings of the commands of the Alarm Definitions and the Alarm Table (chapters 8 and 9): definitions, host
codes, acknowledgement, shelving, silence, the listing, ALARM_GET and the shelve timer.
-/

namespace Sys2Proof.Machine

/-! ### Definitions (R146, R147) -/

/-- The greater of two classes (R143, R146). -/
def AlarmClass.atLeast (c floor : AlarmClass) : AlarmClass := if c.rank < floor.rank then floor else c

/-- The persistence a DEFINE leaves: clamped to 15 where it may be set, else 0 (R146). -/
def persistenceOf (c : Code) (p : Byte) : Nat := if c.persistenceSettable then clampNat 0 15 p.toNat else 0

/-- Some value of a DEFINE was clamped or raised (R146). -/
def defineClamped (c : Code) (cls : AlarmClass) (p : Byte) (cap : Word16) : Bool :=
  decide (cls.rank < c.floor.rank) || (c.persistenceSettable && decide (15 < p.toNat)) || decide (1000 < cap.toNat)

/-- The polarity a DEFINE leaves: written for an external code, else ignored (R146). -/
def polarityWritten (c : Code) (old : Option Polarity) (given : Polarity) : Option Polarity :=
  match c with
  | .input _ => some given
  | _ => old

/-- A definition as DEFINE writes it (R146). -/
def definedAs (d : Definition) (c : Code) (cls : AlarmClass) (scope p : Byte) (cap : Word16) (pol : Polarity) : Definition :=
  { d with
    cls := cls.atLeast d.floor, scope := scopeOfByte scope, persistence := persistenceOf c p
    cap := clampNat 0 1000 cap.toNat, polarity := polarityWritten c d.polarity pol, run := 0 }

/-- A definition as DEFINITION_GET and DEFINE report it (12.12). -/
def definitionBytes (c : Code) (d : Definition) : List Byte :=
  [byteOf c.num, byteOf d.cls.rank, byteOf d.floor.rank, scopeByte d.scope, byteOf d.persistence] ++ nat16 d.cap ++
  [byteOf ((d.polarity.map Polarity.code).getD 0), bitsByte [d.active, d.pendingMark], byteOf d.run] ++
  int16 (d.raiseValue.getD 0) ++ [bitsByte [d.polarity.isSome, d.raiseValue.isSome]]

/-- DEFINE by its checks (R146). -/
def State.defineRequest (s : State) (code cls scope p : Byte) (cap : Word16) (polarity : Byte) : Answer :=
  match codeOf code with
  | none => refuse s .noSuch
  | some c =>
    match classOf cls, polarityOf polarity with
    | some k, some pol =>
      if c = .tableOverflow then refuse s .state
      else if (s.table.find c).isSome ∨ (s.definition c).pendingMark = true then refuse s .alarmLive
      else
        let d := definedAs (s.definition c) c k scope p cap pol
        ⟨s.setDef c d, [], okOr (defineClamped c k p cap), definitionBytes c d⟩
    | _, _ => refuse s .noSuch

/-- DEFINE (R146). -/
def execDefine (h : Header) (code cls scope persistence : Byte) (cap : Word16) (polarity : Byte) (s : State) :
    Host.Outcome State Fault Refusal :=
  .next (s.request h 0x40#8 (lengthIs h 7) fun s => s.defineRequest code cls scope persistence cap polarity)

/-- DEFINITION_GET (R147): code. -/
def execDefinitionGet (h : Header) (code : Byte) (s : State) : Host.Outcome State Fault Refusal :=
  .next
    (s.request h 0x41#8 (lengthIs h 1) fun s =>
      match codeOf code with
      | some c => reply s (definitionBytes c (s.definition c))
      | none => refuse s .noSuch)

/-! ### Host codes (R152, R153) -/

/-- The raw value of a host code set (R152). -/
def State.setHostRaw (s : State) (c : Code) (raw : Bool) : State := s.setDef c { s.definition c with hostRaw := some raw }

/-- RAISE of a host code: a sample with raw value true, carrying the value clamped; the status reports a clamp only when
the request raises the code (R153). -/
def State.raiseRequest (s : State) (code : Byte) (value : Option Int) : Answer :=
  match hostCodeOf code with
  | none => refuse s .noSuch
  | some i =>
    let clamped := value.any fun v => clampValue v != v
    ⟨s.setHostRaw (.host i) true, [.sample (.host i) true (value.map clampValue)],
      okOr (clamped && !(s.definition (.host i)).active), []⟩

/-- The value of a RAISE: present at length 3 (R197). -/
def raiseValue (h : Header) (value : Word16) : Option Int := if lengthIs h 3 then some value.toInt else none

/-- RAISE (R153): code, and a value at length 3. -/
def execRaise (h : Header) (code : Byte) (value : Word16) (s : State) : Host.Outcome State Fault Refusal :=
  .next
    (s.request h 0x42#8 (lengthIs h 1 || lengthIs h 3) fun s => s.raiseRequest code (raiseValue h value))

/-- CLEAR of a host code: a sample with raw value false (R153). -/
def State.clearRequest (s : State) (code : Byte) : Answer :=
  match hostCodeOf code with
  | none => refuse s .noSuch
  | some i => ⟨s.setHostRaw (.host i) false, [.sample (.host i) false none], .ok, []⟩

/-- CLEAR (R153): code. -/
def execClear (h : Header) (code : Byte) (s : State) : Host.Outcome State Fault Refusal :=
  .next (s.request h 0x43#8 (lengthIs h 1) fun s => s.clearRequest code)

/-! ### Acknowledgement (R164, R165) -/

/-- The record a request names: its code names a definition and has a record (R164, R166, R167, R173). -/
def State.namedRecord (s : State) (code : Byte) : Option AlarmRecord := (codeOf code).bind s.table.find

/-- ACK by the record's state (R164). -/
def State.ackRequest (s : State) (code : Byte) : Answer :=
  match s.namedRecord code with
  | none => refuse s .noSuch
  | some r =>
    match r.state with
    | .activeUnack => ⟨s.ackRecord r.code, [.deliver], .ok, []⟩
    | .clearedUnack => ⟨s.ackRecord r.code, [.deliver], .ok, []⟩
    | .activeAck => reply s []
    | .shelved => reply s []

/-- ACK (R164): code. -/
def execAck (h : Header) (code : Byte) (s : State) : Host.Outcome State Fault Refusal :=
  .next (s.request h 0x44#8 (lengthIs h 1) fun s => s.ackRequest code)

/-- The acknowledgement of the records of some codes, one after another (R165). -/
def State.ackEach (s : State) : List Code → State
  | [] => s
  | c :: rest => (s.ackRecord c).ackEach rest

/-- ACK_ALL: the records present at the start, in list order, as one table change event; the counts are those that went
to ACTIVE_ACK and those that retired (R165). -/
def State.ackAllRequest (s : State) : Answer :=
  let present := s.table.listing.map AlarmRecord.code
  let t := s.ackEach present
  ⟨t, [.deliver], .ok,
    [byteOf (s.table.countState .activeUnack), byteOf (present.filter fun c => (t.table.find c).isNone).length]⟩

/-- ACK_ALL (R165). -/
def execAckAll (h : Header) (s : State) : Host.Outcome State Fault Refusal :=
  .next (s.request h 0x45#8 (lengthIs h 0) fun s => s.ackAllRequest)

/-! ### Shelving (R166, R167) -/

/-- A record shelved for some minutes (R166). -/
def State.shelveRecord (s : State) (c : Code) (minutes : Nat) : State :=
  s.setTable
    (s.table.modify c fun r => { r with state := .shelved, shelve := some (Timer.start (minutes * Config.minuteMs)) })

/-- SHELVE by its checks (R166). -/
def State.shelveRequest (s : State) (code minutes : Byte) : Answer :=
  match s.namedRecord code with
  | none => refuse s .noSuch
  | some r =>
    if r.cls ≠ .note ∧ r.cls ≠ .derate then refuse s .state
    else if r.state ≠ .activeUnack ∧ r.state ≠ .activeAck then refuse s .state
    else
      let m := clampNat 1 240 minutes.toNat
      ⟨s.shelveRecord r.code m, [.deliver], okOr (m != minutes.toNat), [byteOf m]⟩

/-- SHELVE (R166): code and minutes. -/
def execShelve (h : Header) (code minutes : Byte) (s : State) : Host.Outcome State Fault Refusal :=
  .next (s.request h 0x46#8 (lengthIs h 2) fun s => s.shelveRequest code minutes)

/-- A SHELVED record back in ACTIVE_UNACK, which clears the silence flag (R167, R174). -/
def State.returnRecord (s : State) (c : Code) : State :=
  let s := s.setRecordState c .activeUnack
  s.setTable { s.table with silence := false }

/-- UNSHELVE by its checks; ALARM_NEW is not set (R167). -/
def State.unshelveRequest (s : State) (code : Byte) : Answer :=
  match s.namedRecord code with
  | none => refuse s .noSuch
  | some r => if r.state = .shelved then ⟨s.returnRecord r.code, [.deliver], .ok, []⟩ else refuse s .state

/-- UNSHELVE (R167): code. -/
def execUnshelve (h : Header) (code : Byte) (s : State) : Host.Outcome State Fault Refusal :=
  .next (s.request h 0x47#8 (lengthIs h 1) fun s => s.unshelveRequest code)

/-- The expiry of the shelve timer of a code's record: ALARM_NEW is set (R167). -/
def State.shelveExpiry (s : State) (code : Byte) : State × List Act :=
  match s.namedRecord code with
  | none => (s, [])
  | some r => if r.state = .shelved then ((s.returnRecord r.code).setFlag .alarmNew, [.deliver]) else (s, [])

/-- SHELVE_TIMER_EXPIRY (R167): the code of the record. -/
def execShelveTimerExpiry (code : Byte) (s : State) : Host.Outcome State Fault Refusal :=
  .next (s.event fun s => s.shelveExpiry code)

/-! ### SILENCE (R174) -/

/-- The silence flag set, and HORN evaluated (R174). -/
def State.silenceTable (s : State) : State :=
  let t := { s.table with silence := true }
  (s.setTable t).setPins { s.pins with horn := t.hornLevel }

/-- SILENCE (R174). -/
def execSilence (h : Header) (s : State) : Host.Outcome State Fault Refusal :=
  .next (s.request h 0x48#8 (lengthIs h 0) fun s => reply s.silenceTable [])

/-! ### Listing and reading (R171, R173) -/

/-- The codes that follow a code in a list of codes; none of them for a code that is not in it. -/
def codesAfter (c : Code) : List Code → List Code
  | [] => []
  | x :: rest => if x = c then rest else codesAfter c rest

/-- A list reply: up to 12 codes, with the count returned and the count in the table; the cursor goes to the last one
returned, or where stated when none is (R171). -/
def State.listReply (s : State) (following : List Code) (emptyCursor : Option Code) : Answer :=
  let piece := following.take Config.listPiece
  let cursor := match piece.getLast? with
    | some c => some c
    | none => emptyCursor
  reply (s.setTable { s.table with cursor := cursor })
    ([byteOf piece.length, byteOf s.table.listing.length] ++ piece.map fun c => byteOf c.num)

/-- The codes of the table in list order. -/
def AlarmTable.codes (t : AlarmTable) : List Code := t.listing.map AlarmRecord.code

/-- ALARM_LIST_FIRST (R171): from the head of the list. -/
def execAlarmListFirst (h : Header) (s : State) : Host.Outcome State Fault Refusal :=
  .next (s.request h 0x49#8 (lengthIs h 0) fun s => s.listReply s.table.codes none)

/-- ALARM_LIST_NEXT (R171): from after the cursor. -/
def execAlarmListNext (h : Header) (s : State) : Host.Outcome State Fault Refusal :=
  .next
    (s.request h 0x4A#8 (lengthIs h 0) fun s =>
      match s.table.cursor with
      | none => s.listReply s.table.codes none
      | some c => s.listReply (codesAfter c s.table.codes) (some c))

/-- Shelve remaining in whole minutes, rounded up (R157, R166). -/
def AlarmRecord.shelveMinutes (r : AlarmRecord) : Option Nat :=
  r.shelve.map fun t => (t.left + (Config.minuteMs - 1)) / Config.minuteMs

/-- The 15 bytes of an alarm record (12.8). -/
def AlarmRecord.bytes (r : AlarmRecord) : List Byte :=
  [byteOf r.code.num, byteOf r.state.code, byteOf r.cls.rank, scopeByte r.scope,
    bitsByte [r.cap.isSome, r.value.isSome, r.shelveMinutes.isSome]] ++
  nat16 (r.cap.getD 0) ++ bytes32 (BitVec.ofNat 32 r.seq) ++ [byteOf r.recurrence] ++ int16 (r.value.getD 0) ++
  [byteOf (r.shelveMinutes.getD 0)]

/-- ALARM_GET (R173): code. -/
def execAlarmGet (h : Header) (code : Byte) (s : State) : Host.Outcome State Fault Refusal :=
  .next
    (s.request h 0x4B#8 (lengthIs h 1) fun s =>
      match s.namedRecord code with
      | some r => reply s r.bytes
      | none => refuse s .noSuch)

end Sys2Proof.Machine
end

