-- ==== Sys2Proof/Machine/ConfigCommands.lean ====
section
/-!
DEFINITION. The meanings of the commands of the Configuration Banks (chapter 4) and of the sector lookup (R32): staging,
COMMIT, COMMIT_CANCEL, CONFIG_GET, SECTOR_AT and the commit timer.
-/

namespace Sys2Proof.Machine

/-! ### Layouts (12.12) -/

/-- An angle as a 16-bit field. -/
def angleBytes (a : Angle) : List Byte := bytes16 (a.setWidth 16)

/-- A window record: number, marks, base, mask, sector index (12.12, CONFIG_GET WINDOW bytes 3 to 9). -/
def windowBytes (i : Fin 16) (w : Window) : List Byte :=
  [byteOf i.val, bitsByte [w.enable, w.nogo, w.walk]] ++ angleBytes w.base ++ angleBytes w.mask ++ [byteOf w.sector.val]

/-- A sector record: number, curves, D limits and caps (12.12, CONFIG_GET SECTOR bytes 3 to 15). -/
def sectorBytes (i : Fin 9) (x : Sector) : List Byte :=
  [byteOf i.val, byteOf x.ceiling.val, byteOf x.floor.val] ++ nat16 x.dmin ++ nat16 x.dmax ++ nat16 x.hoistCap ++
    nat16 x.dragCap ++ nat16 x.swingCap

/-- A point: x, then y. -/
def Point.bytes (p : Point) : List Byte := nat16 p.x ++ nat16 p.y

/-! ### Staging (R54 to R60) -/

/-- A staging request: refused before any other check while a commit is pending (R60). -/
def State.staging (s : State) (owner : Answer) : Answer :=
  if s.banks.commit.isSome then refuse s .stagedLocked else owner

/-- The state with STAGED replaced. -/
def State.withStaged (s : State) (b : Bank) : State := s.setBanks { s.banks with staged := b }

/-- STAGE_WINDOW by its checks (R54). -/
def State.stageWindowRequest (s : State) (window marks : Byte) (base mask : Word16) (sector : Byte) : Answer :=
  match sixteenOf window, sectorIndexOf sector with
  | some i, some k =>
    match angleOf base, angleOf mask with
    | some b, some m =>
      let w : Window := ⟨byteBit marks 0, b, m, k, byteBit marks 1, byteBit marks 2⟩
      reply (s.withStaged { s.banks.staged with windows := s.banks.staged.windows.set i w }) (windowBytes i w)
    | _, _ => refuse s .range
  | _, _ => refuse s .noSuch

/-- STAGE_WINDOW (R54). -/
def execStageWindow (h : Header) (window marks : Byte) (base mask : Word16) (sector : Byte) (s : State) :
    Host.Outcome State Fault Refusal :=
  .next
    (s.request h 0x20#8 (lengthIs h 7) fun s => s.staging (s.stageWindowRequest window marks base mask sector))

/-- A sector cap as taken: clamped to 1000 (R55). -/
def capOf (w : Word16) : Nat := clampNat 0 1000 w.toNat

/-- STAGE_SECTOR by its checks (R55). -/
def State.stageSectorRequest (s : State) (sector ceiling floor : Byte) (dmin dmax hoistCap dragCap swingCap : Word16) :
    Answer :=
  match sectorOf sector, sixteenOf ceiling, sixteenOf floor with
  | some i, some c, some f =>
    match payoutOf dmin, payoutOf dmax with
    | some lo, some hi =>
      let x : Sector := ⟨c, f, lo, hi, capOf hoistCap, capOf dragCap, capOf swingCap⟩
      let clamped := capOf hoistCap != hoistCap.toNat || capOf dragCap != dragCap.toNat || capOf swingCap != swingCap.toNat
      ⟨s.withStaged { s.banks.staged with sectors := s.banks.staged.sectors.set i x }, [], okOr clamped, sectorBytes i x⟩
    | _, _ => refuse s .range
  | _, _, _ => refuse s .noSuch

/-- STAGE_SECTOR (R55). -/
def execStageSector (h : Header) (sector ceiling floor : Byte) (dmin dmax hoistCap dragCap swingCap : Word16) (s : State) :
    Host.Outcome State Fault Refusal :=
  .next
    (s.request h 0x21#8 (lengthIs h 13) fun s =>
      s.staging (s.stageSectorRequest sector ceiling floor dmin dmax hoistCap dragCap swingCap))

/-- The state with one STAGED curve replaced. -/
def State.withStagedCurve (s : State) (i : Fin 16) (c : Curve) : State :=
  s.withStaged { s.banks.staged with curves := s.banks.staged.curves.set i c }

/-- STAGE_CURVE_LENGTH by its checks (R56). -/
def State.stageLengthRequest (s : State) (curve n : Byte) : Answer :=
  match sixteenOf curve with
  | none => refuse s .noSuch
  | some i =>
    if 16 < n.toNat then refuse s .range
    else reply (s.withStagedCurve i { s.banks.staged.curve i with count := n.toNat }) []

/-- STAGE_CURVE_LENGTH (R56). -/
def execStageCurveLength (h : Header) (curve n : Byte) (s : State) : Host.Outcome State Fault Refusal :=
  .next (s.request h 0x22#8 (lengthIs h 2) fun s => s.staging (s.stageLengthRequest curve n))

/-- A point of a request, when its x and y are payouts (R57). -/
def pointOf (p : RawPoint) : Option Point :=
  match payoutOf p.x, payoutOf p.y with
  | some x, some y => some ⟨x, y⟩
  | _, _ => none

/-- The points of a request, when all are within range (R57). -/
def pointsOf : List RawPoint → Option (List Point)
  | [] => some []
  | p :: rest =>
    match pointOf p, pointsOf rest with
    | some q, some more => some (q :: more)
    | _, _ => none

/-- Consecutive slots written from a first slot on. -/
def writeSlots (slots : Vector Point 16) (first : Nat) : List Point → Vector Point 16
  | [] => slots
  | p :: rest => writeSlots (slots.setIfInBounds first p) (first + 1) rest

/-- STAGE_CURVE_POINTS by its checks (R57). -/
def State.stagePointsRequest (s : State) (curve first : Byte) (points : List RawPoint) : Answer :=
  match sixteenOf curve with
  | none => refuse s .noSuch
  | some i =>
    if 16 < first.toNat + points.length then refuse s .noSuch
    else
      match pointsOf points with
      | none => refuse s .range
      | some pts =>
        let c := s.banks.staged.curve i
        reply (s.withStagedCurve i { c with slots := writeSlots c.slots first.toNat pts }) []

/-- The points a STAGE_CURVE_POINTS carries by its length (R57, 12.3). -/
def sentPoints (h : Header) (points : Vector RawPoint 6) : List RawPoint := points.toList.take ((pointCount h.len).getD 0)

/-- STAGE_CURVE_POINTS (R57). -/
def execStageCurvePoints (h : Header) (curve first : Byte) (points : Vector RawPoint 6) (s : State) :
    Host.Outcome State Fault Refusal :=
  .next
    (s.request h 0x23#8 (pointCount h.len).isSome fun s =>
      s.staging (s.stagePointsRequest curve first (sentPoints h points)))

/-- STAGE_BRAKE_CURVE by its check (R58). -/
def State.stageBrakeRequest (s : State) (curve : Byte) : Answer :=
  match sixteenOf curve with
  | none => refuse s .noSuch
  | some i => reply (s.withStaged { s.banks.staged with brake := i }) []

/-- STAGE_BRAKE_CURVE (R58). -/
def execStageBrakeCurve (h : Header) (curve : Byte) (s : State) : Host.Outcome State Fault Refusal :=
  .next (s.request h 0x24#8 (lengthIs h 1) fun s => s.staging (s.stageBrakeRequest curve))

/-- STAGE_CLEAR (R59): STAGED to its reset contents. -/
def execStageClear (h : Header) (s : State) : Host.Outcome State Fault Refusal :=
  .next (s.request h 0x25#8 (lengthIs h 0) fun s => s.staging (reply (s.withStaged Bank.blank) []))

/-- STAGE_COPY (R59): the whole of ACTIVE into STAGED. -/
def execStageCopy (h : Header) (s : State) : Host.Outcome State Fault Refusal :=
  .next (s.request h 0x26#8 (lengthIs h 0) fun s => s.staging (reply (s.withStaged s.banks.active) []))

/-! ### COMMIT (R61, R65, R67) -/

/-- A whole COMMIT_TIMEOUT in ms (R67). -/
def State.commitTimer (s : State) : Timer := Timer.start (s.cfg .commitTimeout * Config.secondMs)

/-- COMMIT: BUSY while one is pending; validated; pending with its timer, and tested at once (R61). -/
def State.commitRequest (s : State) : Answer :=
  match s.banks.commit with
  | some _ => refuse s .busy
  | none =>
    match s.banks.staged.validate with
    | some (detail, index) =>
      ⟨s.setBanks { s.banks with outcome := some (.refused detail index) }, [], .commitInvalid,
        [byteOf (commitDetailCode detail), byteOf index]⟩
    | none => ⟨s.setBanks { s.banks with commit := some ⟨s.commitTimer, s.safeTest⟩ }, [.commitTest], .accepted, []⟩

/-- COMMIT (R61). -/
def execCommit (h : Header) (s : State) : Host.Outcome State Fault Refusal :=
  .next (s.request h 0x27#8 (lengthIs h 0) fun s => s.commitRequest)

/-- COMMIT_CANCEL (R65). -/
def State.cancelRequest (s : State) : Answer :=
  match s.banks.commit with
  | none => refuse s .state
  | some _ => reply (s.setBanks { s.banks with commit := none, outcome := some .cancelled }) []

/-- COMMIT_CANCEL (R65). -/
def execCommitCancel (h : Header) (s : State) : Host.Outcome State Fault Refusal :=
  .next (s.request h 0x28#8 (lengthIs h 0) fun s => s.cancelRequest)

/-- COMMIT_TIMER_EXPIRY (R67). -/
def execCommitTimerExpiry (s : State) : Host.Outcome State Fault Refusal := .next (s.event fun s => (s.commitExpiry, []))

/-! ### CONFIG_GET (R53) -/

/-- A time left in whole units, rounded up (R66, R157). -/
def roundUp (left unit : Nat) : Nat := (left + (unit - 1)) / unit

/-- The last outcome and its detail in a CONFIG_GET COMMIT reply (12.12). -/
def CommitOutcome.bytes : CommitOutcome → List Byte
  | .done g => [0#8] ++ nat16 g
  | .refused detail index => [1#8, byteOf (commitDetailCode detail), byteOf index]
  | .cancelled => [2#8, 0#8, 0#8]
  | .abandoned => [3#8, 0#8, 0#8]

/-- Bytes 3 to 9 of a CONFIG_GET COMMIT reply (R66, 12.12). While the first commit since reset is pending the last outcome is
absent, as R66 gives it no value before an end (DESIGN CHOICE, assumption log 28). -/
def ConfigBanks.commitBytes (b : ConfigBanks) : List Byte :=
  (match b.commit with
    | some p =>
      [1#8, bitsByte [true, b.outcome.isSome], byteOf (roundUp p.timer.left Config.secondMs), byteOf p.lastTest.code]
    | none => [0#8, bitsByte [false, b.outcome.isSome], 0#8, 0#8]) ++
  (match b.outcome with
    | some o => o.bytes
    | none => [0#8, 0#8, 0#8])

/-- Bytes 3 to 9 of a CONFIG_GET CURVE reply (12.12). -/
def curveBytes (i : Fin 16) (c : Curve) : List Byte :=
  [byteOf i.val, byteOf c.count, bitsByte [decide (1 ≤ c.count)]] ++
    (if 1 ≤ c.count then c.slots[0].bytes else [0#8, 0#8, 0#8, 0#8])

/-- Bytes 3 on of a CONFIG_GET POINTS reply: up to five slots, stopping at slot 15 (12.12). -/
def pointsBytes (i first : Fin 16) (c : Curve) : List Byte :=
  [byteOf i.val, byteOf first.val] ++ ((c.slots.toList.drop first.val).take 5).flatMap Point.bytes

/-- The item part of a CONFIG_GET reply; none for an item or index that names nothing (R53). -/
def ConfigBanks.itemBytes (b : ConfigBanks) (bank : Bank) (item index first : Byte) : Option (List Byte) :=
  match item.toNat with
  | 0 => (sixteenOf index).map fun i => windowBytes i (bank.window i)
  | 1 => (sectorOf index).map fun i => sectorBytes i (bank.sector i)
  | 2 => (sixteenOf index).map fun i => curveBytes i (bank.curve i)
  | 3 =>
    match sixteenOf index, sixteenOf first with
    | some i, some k => some (pointsBytes i k (bank.curve i))
    | _, _ => none
  | 4 => some [byteOf bank.brake.val]
  | 5 => some b.commitBytes
  | _ => none

/-- CONFIG_GET by its checks (R53). -/
def State.configGetRequest (s : State) (bank item index first : Byte) : Answer :=
  match bankOf bank with
  | none => refuse s .noSuch
  | some name =>
    match s.banks.itemBytes (s.banks.named name) item index first with
    | some bytes => reply s ([bank] ++ nat16 s.banks.generation ++ bytes)
    | none => refuse s .noSuch

/-- CONFIG_GET (R53): bank, item, index, first slot. -/
def execConfigGet (h : Header) (bank item index first : Byte) (s : State) : Host.Outcome State Fault Refusal :=
  .next (s.request h 0x29#8 (lengthIs h 4) fun s => s.configGetRequest bank item index first)

/-! ### SECTOR_AT (R32) -/

/-- Bytes 3 to 9 of a SECTOR_AT reply (R32, 12.12). -/
def Bank.lookupBytes (b : Bank) (a : Angle) : List Byte :=
  [bitsByte [(b.governing a).isSome, b.isNogo a, (b.governing a).isSome],
    byteOf (((b.governing a).map Fin.val).getD 0), byteOf (b.governingSector a).val,
    bitsByte [b.isNogo a, b.walkAllowed a], byteOf (((b.nogoWindow a).map Fin.val).getD 0)] ++
  angleBytes (((b.governing a).map fun i => a &&& ~~~(b.window i).mask).getD 0#12)

/-- SECTOR_AT by its checks (R32). -/
def State.sectorAtRequest (s : State) (angle : Word16) (bank : Byte) : Answer :=
  match bankOf bank with
  | none => refuse s .noSuch
  | some name =>
    match angleOf angle with
    | none => refuse s .range
    | some a => reply s ([bank] ++ nat16 s.banks.generation ++ (s.banks.named name).lookupBytes a)

/-- SECTOR_AT (R32): angle and bank. -/
def execSectorAt (h : Header) (angle : Word16) (bank : Byte) (s : State) : Host.Outcome State Fault Refusal :=
  .next (s.request h 0x2A#8 (lengthIs h 3) fun s => s.sectorAtRequest angle bank)

end Sys2Proof.Machine
end

