-- ==== Sys2Proof/Machine/DriveCommands.lean ====
section
/-!
DEFINITION. The meanings of the commands of the Drive Ports (chapter 7): the port requests, presence, the reset sequence,
the link period, status frames and the brake watch timer.
-/

namespace Sys2Proof.Machine

/-! ### Requests -/

/-- PORT_RESET at a port, by its state (R128, R129, R134). -/
def State.portResetRequest (s : State) (m : Motion) : Answer :=
  let begun (r : State × List Act) : Answer := ⟨r.1.beginResetSequence m, r.2, .accepted, []⟩
  match (s.ports.get m).state with
  | .attached => begun (s.changePort m .resetting .resetRequest, [])
  | .disabled => begun (s.changePort m .resetting .resetRequest, [])
  | .enabled =>
    if s.channelClosed m then begun (s.leaveEnabled m .resetting .resetRequest []) else refuse s .state
  | .resetting => refuse s .busy
  | .detached => refuse s .state

/-- PORT_RESET (R128): port. -/
def execPortReset (h : Header) (port : Byte) (s : State) : Host.Outcome State Fault Refusal :=
  .next
    (s.request h 0x18#8 (lengthIs h 1) fun s =>
      match motionOf port with
      | some m => s.portResetRequest m
      | none => refuse s .noSuch)

/-- PORT_DISABLE at a port (R136). -/
def State.portDisableRequest (s : State) (m : Motion) : Answer :=
  if (s.ports.get m).state = .enabled ∧ s.channelClosed m = true then
    ⟨(s.leaveEnabled m .disabled .disableRequest []).1, (s.leaveEnabled m .disabled .disableRequest []).2, .ok, []⟩
  else refuse s .state

/-- PORT_DISABLE (R136): port. -/
def execPortDisable (h : Header) (port : Byte) (s : State) : Host.Outcome State Fault Refusal :=
  .next
    (s.request h 0x19#8 (lengthIs h 1) fun s =>
      match motionOf port with
      | some m => s.portDisableRequest m
      | none => refuse s .noSuch)

/-- The brake watch as PORT_GET reports it (12.12). -/
def BrakeWatch.byte (w : BrakeWatch) : Byte := bitsByte [w.command == .release, w.confirmed, w.inBreach]

/-- The 9 bytes of a PORT_GET reply (R140, 12.12). -/
def State.portPayload (s : State) (m : Motion) : List Byte :=
  let p := s.ports.get m
  [byteOf (motionCode m), byteOf p.state.code, bitsByte [p.lastCause.isSome, p.lastStatus.isSome],
    byteOf ((p.lastCause.map PortCause.code).getD 0), p.sequence, byteOf p.misses] ++
  [(p.lastStatus.map DriveStatus.byte).getD 0#8, p.watch.byte, byteOf (s.cfg (.linkPeriod m))]

/-- PORT_GET (R140): port. -/
def execPortGet (h : Header) (port : Byte) (s : State) : Host.Outcome State Fault Refusal :=
  .next
    (s.request h 0x1A#8 (lengthIs h 1) fun s =>
      match motionOf port with
      | some m => reply s (s.portPayload m)
      | none => refuse s .noSuch)

/-! ### Presence and the reset sequence -/

/-- PRESENCE_CHANGE (R127): a level held for less than 20 ms changes nothing. -/
def execPresenceChange (port : Motion) (active : Bool) (held : Nat) (s : State) : Host.Outcome State Fault Refusal :=
  .next (s.event fun s => if Config.presenceHold ≤ held then s.presenceTaken port active else (s, []))

/-- RESET_SEQUENCE_TICK (R129). -/
def execResetSequenceTick (port : Motion) (s : State) : Host.Outcome State Fault Refusal :=
  .next (s.event fun s => s.resetTick port)

/-! ### The link period (R130) -/

/-- Step 2: the reference update of the owning channel, and what it hands to its port (R77, R109). -/
def State.referenceUpdate (s : State) : Motion → State × Handed
  | .hoist => s.channelUpdate .hoist
  | .drag => s.channelUpdate .drag
  | .swing => s.channelUpdate .swing
  | .walk => s.walkUpdate

/-- Steps 2 and 3: the update and the frame sent (R130). -/
def State.updateAndSend (s : State) (m : Motion) : State := (s.referenceUpdate m).1.sendReference m (s.referenceUpdate m).2

/-- A frame is outstanding with its reply not yet judged (R130 step 1). -/
def Port.unjudged (p : Port) : Bool := p.outstanding.any fun o => !o.judged

/-- One link period event: the link timer restarts; an unjudged frame is a miss; unless that miss takes the port out of
ENABLED, the channel updates and the frame is sent (R130). -/
def State.linkPeriod (s : State) (m : Motion) : State × List Act :=
  let p := s.ports.get m
  if p.state ≠ .enabled ∨ p.linkTimer = none then (s, [])
  else
    let s := s.setPort m { p with linkTimer := some (Timer.start (s.cfg (.linkPeriod m))) }
    let r := if p.unjudged then s.countMiss m else (s, [])
    if (r.1.ports.get m).state = .enabled then (r.1.updateAndSend m, r.2) else r

/-- LINK_PERIOD_EVENT (R130). -/
def execLinkPeriodEvent (port : Motion) (s : State) : Host.Outcome State Fault Refusal :=
  .next (s.event fun s => s.linkPeriod port)

/-! ### Status frames and the brake watch timer -/

/-- DRIVE_STATUS_FRAME (R131, R198). -/
def execDriveStatusFrame (port : Motion) (bytes : List Byte) (s : State) : Host.Outcome State Fault Refusal :=
  .next (s.event fun s => s.receiveStatus port bytes)

/-- BRAKE_WATCH_TIMER_EXPIRY (R137). -/
def execBrakeWatchTimerExpiry (port : Motion) (s : State) : Host.Outcome State Fault Refusal :=
  .next (s.event fun s => s.watchExpiry port)

end Sys2Proof.Machine
end

