-- ==== Sys2Proof/Machine/MotionCommands.lean ====
section
/-!
DEFINITION. The meanings of the requests that move or hold the machine (chapters 5, 6 and 10): DEMAND, OPEN, CLOSE, HOLD_ALL,
RELEASE_ALL, REFERENCE and RESUME.
-/

namespace Sys2Proof.Machine

/-- The refusal of a request that needs READY: NOT_CONFIGURED in START, TRIP_ACTIVE in TRIPPED (R68, R71, R105, R120). -/
def State.notReady (s : State) : Option Status :=
  match s.sup.operating with
  | .start => some .notConfigured
  | .tripped => some .tripActive
  | .ready => none

/-! ### DEMAND (R75, R121) -/

/-- The demand a 16-bit argument asks for, clamped (R75, R197). -/
def demandOf (w : Word16) : Int := clampDemand w.toInt

/-- DEMAND at the four channels: the three rope and swing channels, then the walk (R75, R121). The DEMAND_LOST_x samples of
several marked channels are delivered HOIST first and SWING last: R75 gives no order and R148 asks for none (DESIGN CHOICE,
assumption log 26). -/
def State.demandRequest (s : State) (hd dd sd wd : Word16) : Answer :=
  let r1 := s.takeDemand .hoist (demandOf hd)
  let r2 := r1.1.takeDemand .drag (demandOf dd)
  let r3 := r2.1.takeDemand .swing (demandOf sd)
  let clamped := demandOf hd != hd.toInt || demandOf dd != dd.toInt || demandOf sd != sd.toInt || demandOf wd != wd.toInt
  ⟨r3.1.takeWalkDemand (demandOf wd), r1.2 ++ r2.2 ++ r3.2, okOr clamped,
    int16 (demandOf hd) ++ int16 (demandOf dd) ++ int16 (demandOf sd) ++ int16 (demandOf wd)⟩

/-- DEMAND (R75): the hoist, drag, swing and walk demands. -/
def execDemand (h : Header) (hd dd sd wd : Word16) (s : State) : Host.Outcome State Fault Refusal :=
  .next (s.request h 0x10#8 (lengthIs h 8) fun s => s.demandRequest hd dd sd wd)

/-! ### OPEN (R71, R72, R120) -/

/-- Checks 2 to 6 of an OPEN of a rope or swing channel (R71). -/
def State.openRefusal (s : State) (a : Axis) (mode : Mode) : Option Status :=
  match s.notReady with
  | some x => some x
  | none =>
    if (s.channel a).state = .closing then some .busy
    else if (s.channel a).state ≠ .closed then some .state
    else if (s.ports.get a.motion).state ≠ .enabled then some .portNotEnabled
    else if s.walk.state.holdsChannels ∨ s.walk.state = .maint then some .walkActive
    else if mode = .follow ∧ s.allReferenced = false then some .notReferenced
    else none

/-- The record of a channel when its OPEN is taken: mode, demand 0, demand timer, hold sources for the mode (R72). -/
def State.openedChannel (s : State) (a : Axis) (mode : Mode) : Channel :=
  let c := { s.channel a with mode := mode, demand := 0, expired := false, demandTimer := some s.demandTimer }
  { c with holds := s.holdSet c }

/-- A taken OPEN: OPENING when no hold source is present, else PARKED with the brake set (R72). -/
def State.openTaken (s : State) (a : Axis) (mode : Mode) : State × List Act :=
  let c := s.openedChannel a mode
  if c.holds.any then
    (s.setChannel a { c with state := .parked, enable := false, brake := .apply, reference := 0 }, [.channelChanged a])
  else (s.setChannel a c).enterOpening a

/-- OPEN of a rope or swing channel (R71, R72). -/
def State.openAxis (s : State) (a : Axis) (mode : Mode) : Answer :=
  match s.openRefusal a mode with
  | some x => refuse s x
  | none =>
    let r := s.openTaken a mode
    ⟨r.1, r.2, .accepted, []⟩

/-- The checks of OPEN(WALK, MAINT) (R120). -/
def State.openWalkRefusal (s : State) : Option Status :=
  match s.notReady with
  | some x => some x
  | none =>
    if s.walk.state = .closing then some .busy
    else if s.walk.state ≠ .idle then some .state
    else if s.ports.walk.state ≠ .enabled then some .portNotEnabled
    else if s.walk.halts.any then some .state
    else none

/-- OPEN of the walk channel: FOLLOW is refused with NO_SUCH (R120). -/
def State.openWalk (s : State) (mode : Mode) : Answer :=
  match mode with
  | .follow => refuse s .noSuch
  | .maint =>
    match s.openWalkRefusal with
    | some x => refuse s x
    | none =>
      let r := (s.setWalk { s.walk with demand := 0, demandTimer := some s.demandTimer }).walkToOpening .maint none
      ⟨r.1, r.2, .accepted, []⟩

/-- OPEN by its arguments; one that names nothing is refused first (R71 check 1). -/
def State.openRequest (s : State) (channel mode : Byte) : Answer :=
  match motionOf channel, modeOf mode with
  | some m, some md =>
    match axisOfMotion m with
    | some a => s.openAxis a md
    | none => s.openWalk md
  | _, _ => refuse s .noSuch

/-- OPEN (R71, R120): channel and mode. -/
def execOpenChannel (h : Header) (channel mode : Byte) (s : State) : Host.Outcome State Fault Refusal :=
  .next (s.request h 0x11#8 (lengthIs h 2) fun s => s.openRequest channel mode)

/-! ### CLOSE (R85, R114) -/

/-- CLOSE of a rope or swing channel by its state (R85). -/
def State.closeAxis (s : State) (a : Axis) : Answer :=
  match (s.channel a).state with
  | .opening => ⟨(s.enterClosing a).1, (s.enterClosing a).2, .accepted, []⟩
  | .running => ⟨(s.enterClosing a).1, (s.enterClosing a).2, .accepted, []⟩
  | .parking => ⟨(s.enterClosing a).1, (s.enterClosing a).2, .accepted, []⟩
  | .parked => ⟨(s.closeTo a .close).1, (s.closeTo a .close).2, .ok, []⟩
  | .closing => reply s []
  | .closed => reply s []

/-- CLOSE of the walk channel by its state (R114). -/
def State.closeWalk (s : State) : Answer :=
  match s.walk.state with
  | .opening => ⟨(s.haltWalk .close).1, (s.haltWalk .close).2, .accepted, []⟩
  | .stepping => ⟨(s.haltWalk .close).1, (s.haltWalk .close).2, .accepted, []⟩
  | .maint => ⟨(s.haltWalk .close).1, (s.haltWalk .close).2, .accepted, []⟩
  | .stopped =>
    if s.atPark then ⟨(s.walkToIdle .close).1, (s.walkToIdle .close).2, .ok, []⟩ else refuse s .state
  | .idle => reply s []
  | .halting => reply s []
  | .closing => reply s []

/-- CLOSE by its argument (R85). -/
def State.closeRequest (s : State) (channel : Byte) : Answer :=
  match motionOf channel with
  | none => refuse s .noSuch
  | some m =>
    match axisOfMotion m with
    | some a => s.closeAxis a
    | none => s.closeWalk

/-- CLOSE (R85, R114): channel. -/
def execCloseChannel (h : Header) (channel : Byte) (s : State) : Host.Outcome State Fault Refusal :=
  .next (s.request h 0x12#8 (lengthIs h 1) fun s => s.closeRequest channel)

/-! ### HOLD_ALL and RELEASE_ALL (R91) -/

/-- The HOLD_ALL flag set to a value: a change is delivered to every channel and to the walk, and HOLD_EFFECTIVE is
evaluated (R91, R92), in this order, which R91 and R92 leave open (DESIGN CHOICE, assumption log 24). -/
def State.holdRequest (s : State) (flag : Bool) : Answer :=
  if s.holdAll = flag then reply s []
  else ⟨{ s with holdAll := flag }, reformAll ++ [.reformWalk, .holdEffective], .ok, []⟩

/-- HOLD_ALL (R91). -/
def execHoldAll (h : Header) (s : State) : Host.Outcome State Fault Refusal :=
  .next (s.request h 0x13#8 (lengthIs h 0) fun s => s.holdRequest true)

/-- RELEASE_ALL (R91). -/
def execReleaseAll (h : Header) (s : State) : Host.Outcome State Fault Refusal :=
  .next (s.request h 0x14#8 (lengthIs h 0) fun s => s.holdRequest false)

/-! ### REFERENCE (R5) -/

/-- A taken REFERENCE: the reference point, the payout at once, the flag, and the change handed on (R5, R80). -/
def State.referenceTaken (s : State) (r : Rope) (payout : Nat) : State :=
  (s.setRope r
    { s.rope r with
      refCount := (s.rope r).count, refPayout := payout, payout := payout, referenced := true }).setFlag .referenced

/-- REFERENCE by its checks (R5). -/
def State.referenceRequest (s : State) (axis : Byte) (payout : Word16) : Answer :=
  match ropeOf axis with
  | none => refuse s .noSuch
  | some r =>
    match payoutOf payout with
    | none => refuse s .range
    | some p =>
      if s.channelClosed r.axis.motion = false then refuse s .state
      else if (s.definition (.encoderFault r.axis)).active then refuse s .state
      else ⟨s.referenceTaken r p, reformAll, .ok, [axis] ++ nat16 p ++ bytes32 (s.rope r).count⟩

/-- REFERENCE (R5): axis and payout. -/
def execReference (h : Header) (axis : Byte) (payout : Word16) (s : State) : Host.Outcome State Fault Refusal :=
  .next (s.request h 0x15#8 (lengthIs h 3) fun s => s.referenceRequest axis payout)

/-! ### RESUME (R181) -/

/-- RESUME by the operating state and the trip demand last delivered (R181). -/
def State.resumeRequest (s : State) : Answer :=
  match s.sup.operating with
  | .start => reply s []
  | .ready => reply s []
  | .tripped =>
    if s.sup.tripDemand then refuse s .tripActive
    else if s.banks.generation = 0 then reply (s.setSup { s.sup with operating := .start }) []
    else reply ((s.setSup { s.sup with operating := .ready }).setPins { s.pins with safeRun := true }) []

/-- RESUME (R181). -/
def execResume (h : Header) (s : State) : Host.Outcome State Fault Refusal :=
  .next (s.request h 0x16#8 (lengthIs h 0) fun s => s.resumeRequest)

end Sys2Proof.Machine
end

