-- ==== Sys2Proof/Machine/ResetOps.lean ====
section
/-!
DEFINITION. Resets (R184, R185, R190): what the beginning of a reset does to every block, and what its end does.
-/

namespace Sys2Proof.Machine

/-- The ASU during a reset: its reset values, with no timer running (R18, R185). -/
def AxisUnit.inReset : AxisUnit := { AxisUnit.blank with sampleTimers := ⟨none, none, none⟩, staleTimer := none }

/-- The Request Port during a reset: no flag, no mask, no snapshot, no response offered; a transaction in progress is not
taken (R184, R187, R190). A transaction whose select fell before the reset sends 32 zeros from its beginning on, as one whose
select falls in it does: R190 gives zeros for the latter alone (DESIGN CHOICE, assumption log 29). -/
def RequestPort.inReset (p : RequestPort) : RequestPort :=
  { RequestPort.blank with flags := 0#16, selectLow := p.selectLow, untaken := p.selectLow || p.untaken }

/-- The beginning of a reset of a kind: every block at its reset values, no timer running, SAFE_RUN low, HORN, BEACON
and ATTN off; the input lines and the waiting commands stay (R184). -/
def State.beginReset (s : State) (cause : ResetCause) : State :=
  { State.reset with
    asu := AxisUnit.inReset
    inputTimer := none
    sup := ⟨.start, cause, false, false, none⟩
    rport := s.rport.inReset
    lines := s.lines
    pins := ⟨false, false, false, false⟩
    resetting := some cause
    pending := s.pending }

/-- A port after the end of a reset: ATTACHED with cause PRESENCE_ON where its presence line is active (R125, R127). -/
def Port.afterReset (active : Bool) : Port :=
  if active then { Port.blank with state := .attached, lastCause := some .presenceOn } else Port.blank

/-- The presence level of a port in the reading at the end of a reset: bit n is Pn. -/
def presenceAt (presence : BitVec 4) (m : Motion) : Bool := presence.getLsbD (motionCode m)

/-- The ports after the end of a reset (R127). -/
def portsAfterReset (presence : BitVec 4) : PerMotion Port :=
  ⟨Port.afterReset (presenceAt presence .hoist), Port.afterReset (presenceAt presence .drag),
    Port.afterReset (presenceAt presence .swing), Port.afterReset (presenceAt presence .walk)⟩

/-- The flags after the end of a reset: RESET_DONE, and PORT_CHANGE where a presence line is active (R127, R185, R191). -/
def flagsAfterReset (presence : BitVec 4) : Word16 :=
  if presence = 0#4 then EventFlag.resetDone.word else EventFlag.resetDone.word ||| EventFlag.portChange.word

/-- The end of a reset of a kind, with the presence lines and the PARK switch as read then: every block at its reset
values, the timers started, RESET_DONE set and ATTN driven (R13, R18, R127, R185, R190). -/
def State.endReset (s : State) (cause : ResetCause) (lines : ResetLines) : State :=
  State.setFlagWords
    { State.reset with
      asu := { AxisUnit.blank with camReferenced := lines.park }
      ports := portsAfterReset lines.presence
      sup := { State.reset.sup with cause := cause }
      rport := { RequestPort.blank with sending := s.rport.sending, selectLow := s.rport.selectLow, untaken := s.rport.untaken }
      lines := s.lines
      pending := s.pending }
    (flagsAfterReset lines.presence) 0#16

/-- The point where a reset would end: it ends where RESET_N is high, and a RESET_N low extends it, its cause kept (R184). -/
def State.tryEndReset (s : State) (resetN : Bool) (lines : ResetLines) : State :=
  match s.resetting with
  | some cause => if resetN then s.endReset cause lines else s
  | none => s

end Sys2Proof.Machine
end

