-- ==== Sys2Proof/Machine/PortCommands.lean ====
section
/-!
DEFINITION. The meanings of the commands of the Request Port itself (chapter 11): NOP, STATUS, RESET, the settings, the
event flags, the snapshot, and the two outcomes of a transaction that is no request.
-/

namespace Sys2Proof.Machine

/-- NOP (R196): the STATUS payload. -/
def execNop (h : Header) (s : State) : Host.Outcome State Fault Refusal :=
  .next (s.request h 0x01#8 (lengthIs h 0) fun s => reply s s.statusPayload)

/-- STATUS (R196): the part's summary. -/
def execStatus (h : Header) (s : State) : Host.Outcome State Fault Refusal :=
  .next (s.request h 0x02#8 (lengthIs h 0) fun s => reply s s.statusPayload)

/-- RESET (R184, R190): checked like any request; when it passes, no response is formed, every block is reset, and the reset
ends at once, unless RESET_N is low, which extends it. -/
def execReset (r : ResetRequest) (s : State) : Host.Outcome State Fault Refusal :=
  .next
    (if s.takesNothing then s.selectRise
    else if lengthIs r.header 0 then (s.receiveFrame.beginReset .request).tryEndReset r.resetN r.lines
    else s.receiveFrame.respond ⟨r.header.tag, 0x03#8, .badLength, []⟩)

/-! ### Settings (R195) -/

/-- The channel that must be CLOSED for a write of a setting to be taken; none for a write that is always taken (R17,
R51, R67, R95, R123, R141, R183). -/
def Setting.guardedBy : Setting → Option Motion
  | .hoistScale => some .hoist
  | .dragScale => some .drag
  | .swingCpt => some .swing
  | .swingIndexAngle => some .swing
  | _ => none

/-- A write of a setting is refused for the state of the channel it concerns (R17). -/
def State.setRefused (s : State) (k : Setting) : Bool := k.guardedBy.any fun m => !s.channelClosed m

/-- The swing counts reduced modulo a new SWING_CPT (R10). -/
def State.reduceSwing (s : State) (cpt : Nat) : State :=
  let x := s.asu.swing
  s.setAsu { s.asu with swing := { x with count := x.count % cpt, indexCount := x.indexCount % cpt } }

/-- The three sample timers started at a period (R1). -/
def State.restartSampleTimers (s : State) (ms : Nat) : State :=
  s.setAsu { s.asu with sampleTimers := ⟨some (Timer.start ms), some (Timer.start ms), some (Timer.start ms)⟩ }

/-- A taken write of a setting, by its owner's rule (R1, R6, R10, R11, R17). -/
def State.writeSetting (s : State) (k : Setting) (v : Nat) : State × List Act :=
  let t := s.setSetting k v
  match k with
  | .axisPeriod => (t.restartSampleTimers v, [])
  | .hoistScale => t.unreferenceRope .hoist
  | .dragScale => t.unreferenceRope .drag
  | .swingCpt => (t.reduceSwing v).unreferenceSwing
  | .swingIndexAngle => t.unreferenceSwing
  | .camFilter => (t.setAsu { t.asu with oldFilters := s.cfg .camFilter :: t.asu.oldFilters }, [])
  | _ => (t, [])

/-- SET, at the owner of the setting (R195). -/
def State.setRequest (s : State) (id : Byte) (value : Word16) : Answer :=
  match Setting.ofId id.toNat with
  | none => refuse s .noSuch
  | some k =>
    if s.setRefused k then refuse s .state
    else
      let v := clampNat k.row.lo k.row.hi value.toNat
      let r := s.writeSetting k v
      ⟨r.1, r.2, okOr (v != value.toNat), [id] ++ nat16 v⟩

/-- SET (R195): setting id and value. -/
def execSet (h : Header) (id : Byte) (value : Word16) (s : State) : Host.Outcome State Fault Refusal :=
  .next (s.request h 0x04#8 (lengthIs h 3) fun s => s.setRequest id value)

/-- GET, at the settings list (R195). -/
def State.getRequest (s : State) (id : Byte) : Answer :=
  match Setting.ofId id.toNat with
  | none => refuse s .noSuch
  | some k => reply s ([id] ++ nat16 (s.cfg k))

/-- GET (R195): setting id. -/
def execGet (h : Header) (id : Byte) (s : State) : Host.Outcome State Fault Refusal :=
  .next (s.request h 0x05#8 (lengthIs h 1) fun s => s.getRequest id)

/-! ### Event flags (R191, R192) -/

/-- EVENTS_ACK (R191): the flags before and after. -/
def execEventsAck (h : Header) (flags : Word16) (s : State) : Host.Outcome State Fault Refusal :=
  .next
    (s.request h 0x06#8 (lengthIs h 2) fun s =>
      let t := s.ackFlags flags
      reply t (bytes16 s.rport.flags ++ bytes16 t.rport.flags))

/-- EVENTS_MASK (R192): the mask taken and the present flags. -/
def execEventsMask (h : Header) (flags : Word16) (s : State) : Host.Outcome State Fault Refusal :=
  .next
    (s.request h 0x07#8 (lengthIs h 2) fun s =>
      reply (s.setMask flags) (bytes16 flags ++ bytes16 s.rport.flags))

/-! ### The snapshot (R193, R194) -/

/-- The snapshot record replaced by a capture, and SNAPSHOT_TAKEN set (R193). -/
def State.takeSnapshot (s : State) : State :=
  (s.setRport { s.rport with snapshot := s.capture }).setFlag .snapshotTaken

/-- SNAPSHOT (R193): the new capture number. -/
def execSnapshot (h : Header) (s : State) : Host.Outcome State Fault Refusal :=
  .next
    (s.request h 0x08#8 (lengthIs h 0) fun s =>
      let t := s.takeSnapshot
      reply t (nat16 t.rport.snapshot.capture))

/-- SNAPSHOT_READ (R194): one piece of the record. -/
def execSnapshotRead (h : Header) (part : Byte) (s : State) : Host.Outcome State Fault Refusal :=
  .next
    (s.request h 0x09#8 (lengthIs h 1) fun s =>
      match s.rport.snapshot.part part.toNat with
      | some payload => reply s payload
      | none => refuse s .noSuch)

/-! ### Transactions (R186, R187, R188) -/

/-- FRAME_ERROR (R187): the response with its reason; the watchdog is not restarted. -/
def execFrameError (reason : FrameReason) (tag code : Byte) (s : State) : Host.Outcome State Fault Refusal :=
  .next
    (if s.takesNothing then s.selectRise
    else s.selectRise.respond ⟨tag, code, .frameError, [frameReasonCode reason]⟩)

/-- UNKNOWN_REQUEST (R188 step 1): a good frame whose code names no request; the watchdog is restarted. -/
def execUnknownRequest (tag code : Byte) (s : State) : Host.Outcome State Fault Refusal :=
  .next
    (if s.takesNothing then s.selectRise
    else s.receiveFrame.respond ⟨tag, code, .unknownRequest, []⟩)

/-- What a transaction clocks out, fixed at the fall of select: the buffer, or the buffer before the last response when
it had not yet landed; zeros during a reset (R186, R190). At the second of two short gaps in a row that earlier buffer is the
response of the first short-gapped transaction: R186 says that the buffer as it stood is sent, and that this response never is
(DESIGN CHOICE, assumption log 35). -/
def State.offered (s : State) (gap : Nat) : List Byte :=
  if s.inReset then zeroFrame
  else if Config.landingMicros ≤ gap then s.rport.buffer.bytes else s.rport.previous.bytes

/-- SELECT_FALL (R186, R190): the bytes of the transaction are fixed; one that falls during a reset is not taken. -/
def execSelectFall (gap : Nat) (s : State) : Host.Outcome State Fault Refusal :=
  .next (s.setRport { s.rport with sending := s.offered gap, selectLow := true, untaken := s.inReset })

end Sys2Proof.Machine
end

