-- ==== Sys2Proof/Machine/ResetCommands.lean ====
section
/-!
DEFINITION. The meanings of the reset events (R184, R185): power-on, RESET_N, and the end of a reset.
-/

namespace Sys2Proof.Machine

/-- POWER_ON (R184). -/
def execPowerOn (s : State) : Host.Outcome State Fault Refusal := .next (s.beginReset .power)

/-- RESET_N_LOW (R184): a low pulse shorter than 10 µs is ignored; a low during a reset keeps its cause, and extends it in
that no RESET_END ends it before RESET_N is read high. -/
def execResetNLow (micros : Nat) (s : State) : Host.Outcome State Fault Refusal :=
  .next (if micros < Config.pinResetMicros ∨ s.inReset = true then s else s.beginReset .pin)

/-- RESET_END (R184, R185): the reset in progress ends where RESET_N is high. With no reset in progress there is none to
end. -/
def execResetEnd (resetN : Bool) (lines : ResetLines) (s : State) : Host.Outcome State Fault Refusal :=
  .next (s.tryEndReset resetN lines)

end Sys2Proof.Machine
end

