-- ==== Sys2Proof/Machine/SensingCommands.lean ====
section
/-!
DEFINITION. The meanings of the field events of the Axis Sensing Unit (chapter 1) and of the external inputs (R151).
-/

namespace Sys2Proof.Machine

/-! ### Sample arrivals (R1) -/

/-- The sample timer of an axis restarted, and the level of its fault line kept as read (R1). -/
def State.beginArrival (s : State) (a : Axis) (faultLine : Bool) : State :=
  { s.setAsu { s.asu with sampleTimers := s.asu.sampleTimers.set a (some (Timer.start (s.cfg .axisPeriod))) } with
    lines := { s.lines with fault := s.lines.fault.set a faultLine } }

/-- A sample arrival: the fault line sampled, the position formed with its range condition, then what acts on an arrival,
in the order of R1. -/
def State.arrival (s : State) (a : Axis) (faultLine : Bool) : State × List Act :=
  (s.beginArrival a faultLine,
    [.sample (.encoderFault a) faultLine none, .formPosition a, .envelopeSample, .commitTest])

/-- AXIS_SAMPLE_ARRIVAL (R1). -/
def execAxisSampleArrival (axis : Axis) (faultLine : Bool) (s : State) : Host.Outcome State Fault Refusal :=
  .next (s.event fun s => s.arrival axis faultLine)

/-! ### Encoders and the cam -/

/-- ROPE_ENCODER_EDGE (R2). -/
def execRopeEncoderEdge (rope : Rope) (edge : QuadEdge) (s : State) : Host.Outcome State Fault Refusal :=
  .next (s.event fun s => (s.setRope rope { s.rope rope with count := countEdge (s.rope rope).count edge }, []))

/-- SWING_ENCODER_EDGE (R7). -/
def execSwingEncoderEdge (edge : QuadEdge) (s : State) : Host.Outcome State Fault Refusal :=
  .next
    (s.event fun s =>
      (s.setAsu { s.asu with swing := { s.asu.swing with count := swingEdge (s.cfg .swingCpt) s.asu.swing.count edge } }, []))

/-- SWING_INDEX_MARK (R8). -/
def execSwingIndexMark (s : State) : Host.Outcome State Fault Refusal := .next (s.event fun s => s.passSwingIndex)

/-- CAM_TOOTH_EDGE (R11): a pulse too short for the filter is ignored. -/
def execCamToothEdge (dir : CamDir) (pulse : Pulse) (s : State) : Host.Outcome State Fault Refusal :=
  .next (s.event fun s => if s.camPasses pulse then s.countTooth dir else (s, []))

/-- CAM_INDEX_PASSAGE (R11, R12): the same filter applies to the index mark. -/
def execCamIndexPassage (dir : CamDir) (pulse : Pulse) (s : State) : Host.Outcome State Fault Refusal :=
  .next (s.event fun s => if s.camPasses pulse then s.passCamIndex dir else (s, []))

/-! ### The inclinometer (R14, R15, R199) -/

/-- Bytes taken from the inclinometer line, each with all that it hands on before the next. -/
def State.takeTiltBytes (s : State) : List Byte → State
  | [] => s
  | b :: rest => (settle (s.tiltByte b)).takeTiltBytes rest

/-- INCLINOMETER_FRAME (R14, R199): the bytes received. -/
def execInclinometerFrame (bytes : List Byte) (s : State) : Host.Outcome State Fault Refusal :=
  .next (if s.inReset then s else s.takeTiltBytes bytes)

/-- INCLINOMETER_FRAME_GAP (R199): a gap longer than 5 ms discards the frame in progress. -/
def execInclinometerFrameGap (gap : Nat) (s : State) : Host.Outcome State Fault Refusal :=
  .next
    (s.event fun s => if Config.frameGapMicros < gap then (s.setAsu { s.asu with tiltFrame := [] }, []) else (s, []))

/-- STALENESS_TIMER_EXPIRY (R15). -/
def execStalenessTimerExpiry (s : State) : Host.Outcome State Fault Refusal := .next (s.event fun s => s.staleExpiry)

/-! ### External inputs (R151) -/

/-- The raw value of an external input by the level of its line and the polarity of its definition (R151). -/
def inputRaw (polarity : Option Polarity) (level : Bool) : Bool :=
  match polarity with
  | some .activeLow => !level
  | _ => level

/-- The sample of one external input (R151). -/
def State.inputAct (s : State) (levels : Byte) (i : Fin 8) : Act :=
  .sample (.input i) (inputRaw (s.definition (.input i)).polarity (levels.getLsbD i.val)) none

/-- The external inputs in the order in which their samples are delivered, X0 first: R151 gives no order (DESIGN CHOICE,
assumption log 20). -/
def inputNumbers : List (Fin 8) := [0, 1, 2, 3, 4, 5, 6, 7]

/-- All eight external inputs sampled, the timer restarted (R151). -/
def State.sampleInputs (s : State) (levels : Byte) : State × List Act :=
  ({ s with inputTimer := some (Timer.start Config.externalPeriod), lines := { s.lines with inputs := levels } },
    inputNumbers.map (s.inputAct levels))

/-- EXTERNAL_INPUT_SAMPLE (R151). -/
def execExternalInputSample (levels : Byte) (s : State) : Host.Outcome State Fault Refusal :=
  .next (s.event fun s => s.sampleInputs levels)

end Sys2Proof.Machine
end

