-- ==== Sys2Proof/Machine/TimerCommands.lean ====
section
/-!
DEFINITION. The meanings of the timer expiries of the channels, the walk and the Supervisor (chapters 5, 6 and 10). An expiry
of a timer that is not running changes nothing: the event that stopped it was taken first.
-/

namespace Sys2Proof.Machine

/-- OPEN_TIMER_EXPIRY (R74). -/
def execOpenTimerExpiry (axis : Axis) (s : State) : Host.Outcome State Fault Refusal :=
  .next (s.event fun s => s.openExpiry axis)

/-- WALK_OPEN_TIMER_EXPIRY (R108). -/
def execWalkOpenTimerExpiry (s : State) : Host.Outcome State Fault Refusal := .next (s.event fun s => s.walkOpenExpiry)

/-- The expiry of a rest timer, by the channel (R82, R115). -/
def State.anyRestExpiry (s : State) : Motion → State
  | .hoist => s.restExpiry .hoist
  | .drag => s.restExpiry .drag
  | .swing => s.restExpiry .swing
  | .walk => s.walkRestExpiry

/-- REST_TIMER_EXPIRY (R82, R115). -/
def execRestTimerExpiry (channel : Motion) (s : State) : Host.Outcome State Fault Refusal :=
  .next (s.event fun s => (s.anyRestExpiry channel, []))

/-- DEMAND_TIMER_EXPIRY (R76). -/
def execDemandTimerExpiry (axis : Axis) (s : State) : Host.Outcome State Fault Refusal :=
  .next (s.event fun s => s.demandExpiry axis)

/-- WALK_DEMAND_TIMER_EXPIRY (R121). -/
def execWalkDemandTimerExpiry (s : State) : Host.Outcome State Fault Refusal :=
  .next (s.event fun s => (s.walkDemandExpiry, []))

/-- The expiry of the link watchdog: LAPSED, its timer stopped, LINK_LOST sampled true (R182). -/
def State.watchdogExpiry (s : State) : State × List Act :=
  if s.sup.watchdog.isSome then
    (s.setSup { s.sup with lapsed := true, watchdog := none }, [.sample .linkLost true none])
  else (s, [])

/-- LINK_WATCHDOG_EXPIRY (R182). -/
def execLinkWatchdogExpiry (s : State) : Host.Outcome State Fault Refusal := .next (s.event fun s => s.watchdogExpiry)

end Sys2Proof.Machine
end

