-- ==== Sys2Proof/Machine/WalkCommands.lean ====
section
/-!
DEFINITION. The meanings of the requests of the Walk Sequencer (chapter 6): the walk plan, WALK_START with its checks and
recovery, and WALK_HALT.
-/

namespace Sys2Proof.Machine

/-! ### The plan (R99 to R103) -/

/-- The id after an id, wrapping from 255 to 1 (R99). -/
def nextLeg (id : Nat) : Nat := if 255 ≤ id then 1 else id + 1

/-- A leg of the plan holds an id. -/
def holdsLeg (plan : List Leg) (id : Nat) : Bool := plan.any fun l => l.id == id

/-- The first id not in use from a counter on; at most eight legs are queued, so one is found in nine tries (R99). -/
def freshLeg (plan : List Leg) : Nat → Nat → Nat
  | 0, id => id
  | tries + 1, id => if holdsLeg plan id then freshLeg plan tries (nextLeg id) else id

/-- A leg's speed as taken: clamped to 100 to 1000 (R100). -/
def speedOf (w : Word16) : Nat := clampNat 100 1000 w.toNat

/-- The plan and the next-id counter replaced. -/
def State.withPlan (s : State) (plan : List Leg) (next : Nat) : State := { s with plan := plan, nextLegId := next }

/-- LEG_APPEND by its checks (R100); a leg appended to an empty plan changes the head leg (R103). -/
def State.legAppendRequest (s : State) (window steps : Byte) (speed : Word16) : Answer :=
  match sixteenOf window with
  | none => refuse s .noSuch
  | some i =>
    if steps.toNat = 0 ∨ 63 < steps.toNat then refuse s .range
    else if Config.maxLegs ≤ s.plan.length then refuse s .planFull
    else
      let id := freshLeg s.plan (Config.maxLegs + 1) s.nextLegId
      let leg : Leg := ⟨id, i, steps.toNat, 0, speedOf speed⟩
      ⟨s.withPlan (s.plan ++ [leg]) (nextLeg id), if s.plan.isEmpty then [.commitTest] else [],
        okOr (speedOf speed != speed.toNat), [byteOf id] ++ nat16 leg.speed⟩

/-- LEG_APPEND (R100): window, steps, speed. -/
def execLegAppend (h : Header) (window steps : Byte) (speed : Word16) (s : State) : Host.Outcome State Fault Refusal :=
  .next (s.request h 0x30#8 (lengthIs h 4) fun s => s.legAppendRequest window steps speed)

/-- LEG_DROP by its checks (R101); dropping the head leg changes the head leg (R103). -/
def State.legDropRequest (s : State) (id : Byte) : Answer :=
  if holdsLeg s.plan id.toNat = false then refuse s .noSuch
  else
    let isHead := s.plan.head?.any fun l => l.id == id.toNat
    if isHead = true ∧ s.walk.state ≠ .idle then refuse s .legActive
    else
      ⟨s.setPlan (s.plan.filter fun l => l.id != id.toNat), if isHead then [.commitTest] else [], .ok, []⟩

/-- LEG_DROP (R101): leg id. -/
def execLegDrop (h : Header) (id : Byte) (s : State) : Host.Outcome State Fault Refusal :=
  .next (s.request h 0x31#8 (lengthIs h 1) fun s => s.legDropRequest id)

/-- PLAN_CLEAR (R102, R103): the test of a pending commit, then the false sample of WALK_PRECONDITION, which the rules do not
order (DESIGN CHOICE, assumption log 24). -/
def State.planClearRequest (s : State) : Answer :=
  if s.walk.state ≠ .idle then refuse s .walkActive
  else ⟨s.setPlan [], (if s.plan.isEmpty then [] else [.commitTest]) ++ [walkPass], .ok, []⟩

/-- PLAN_CLEAR (R102). -/
def execPlanClear (h : Header) (s : State) : Host.Outcome State Fault Refusal :=
  .next (s.request h 0x32#8 (lengthIs h 0) fun s => s.planClearRequest)

/-- A leg in a PLAN_GET reply (12.12). -/
def Leg.bytes (l : Leg) : List Byte :=
  [byteOf l.id, byteOf l.window.val, byteOf l.steps, byteOf l.stepsDone] ++ nat16 l.speed

/-- PLAN_GET (R102): the count, and up to four legs from a position on. -/
def State.planGetRequest (s : State) (first : Byte) : Answer :=
  if 7 < first.toNat then refuse s .range
  else reply s ([byteOf s.plan.length] ++ ((s.plan.drop first.toNat).take 4).flatMap Leg.bytes)

/-- PLAN_GET (R102): first position. -/
def execPlanGet (h : Header) (first : Byte) (s : State) : Host.Outcome State Fault Refusal :=
  .next (s.request h 0x33#8 (lengthIs h 1) fun s => s.planGetRequest first)

/-! ### WALK_START (R105, R118) -/

/-- The first of checks 1 to 7 of a WALK_START in IDLE that fails, with its number and status (R105). -/
def State.startFailure (s : State) : Option (Int × Status) :=
  match s.notReady with
  | some x => some (1, x)
  | none =>
    if s.ports.walk.state ≠ .enabled then some (2, .portNotEnabled)
    else if s.asu.camReferenced = false then some (3, .notReferenced)
    else if s.allResting = false then some (4, .state)
    else if s.inCarryBox = false then some (5, .precondition)
    else if s.tiltFits = false then some (6, .precondition)
    else if s.headFits = false then some (7, .precondition)
    else none

/-- WALK_START in IDLE: the sample of WALK_PRECONDITION is delivered before the entry into OPENING (R105). -/
def State.startFromIdle (s : State) : Answer :=
  if s.plan.isEmpty then refuse s .state
  else
    match s.startFailure with
    | some (n, x) => ⟨s, [walkFailure n], x, []⟩
    | none =>
      if s.walk.halts.any then refuse s .state
      else ⟨s, [walkPass, .beginWalk], .accepted, []⟩

/-- The first check of a recovery that fails (R118). -/
def State.recoveryFailure (s : State) : Option (Int × Status) :=
  match s.notReady with
  | some x => some (1, x)
  | none => if s.asu.stale then some (6, .precondition) else none

/-- WALK_START in STOPPED: recovery, its sample delivered before the cam phase and the halt sources are read (R118). -/
def State.startRecovery (s : State) : Answer :=
  match s.recoveryFailure with
  | some (n, x) => ⟨s, [walkFailure n], x, []⟩
  | none => ⟨s, [walkPass, .beginRecovery], .accepted, []⟩

/-- WALK_START by the walk channel's state (R105). -/
def State.walkStartRequest (s : State) : Answer :=
  match s.walk.state with
  | .idle => s.startFromIdle
  | .stopped => s.startRecovery
  | .opening => refuse s .state
  | .stepping => refuse s .state
  | .halting => refuse s .state
  | .maint => refuse s .state
  | .closing => refuse s .state

/-- WALK_START (R105, R118). -/
def execWalkStart (h : Header) (s : State) : Host.Outcome State Fault Refusal :=
  .next (s.request h 0x34#8 (lengthIs h 0) fun s => s.walkStartRequest)

/-! ### WALK_HALT (R114) -/

/-- WALK_HALT by the walk channel's state (R114). -/
def State.walkHaltRequest (s : State) : Answer :=
  match s.walk.state with
  | .opening => ⟨(s.haltWalk .halt).1, (s.haltWalk .halt).2, .accepted, []⟩
  | .stepping => ⟨(s.haltWalk .halt).1, (s.haltWalk .halt).2, .accepted, []⟩
  | .maint => ⟨(s.haltWalk .halt).1, (s.haltWalk .halt).2, .accepted, []⟩
  | .idle => reply s []
  | .halting => reply s []
  | .stopped => reply s []
  | .closing => reply s []

/-- WALK_HALT (R114). -/
def execWalkHalt (h : Header) (s : State) : Host.Outcome State Fault Refusal :=
  .next (s.request h 0x35#8 (lengthIs h 0) fun s => s.walkHaltRequest)

end Sys2Proof.Machine
end

