-- ==== Sys2Proof/Machine/Dispatch.lean ====
section
/-!
DEFINITION. The dispatch of a command to its meaning: one arm for each constructor of Instr.
-/

namespace Sys2Proof.Machine

def exec (i : Instr) (s : State) : Host.Outcome State Fault Refusal :=
  match i with
  | .nop h => Sys2Proof.Machine.execNop h s
  | .status h => Sys2Proof.Machine.execStatus h s
  | .reset r => Sys2Proof.Machine.execReset r s
  | .set h id value => Sys2Proof.Machine.execSet h id value s
  | .get h id => Sys2Proof.Machine.execGet h id s
  | .eventsAck h flags => Sys2Proof.Machine.execEventsAck h flags s
  | .eventsMask h flags => Sys2Proof.Machine.execEventsMask h flags s
  | .snapshot h => Sys2Proof.Machine.execSnapshot h s
  | .snapshotRead h part => Sys2Proof.Machine.execSnapshotRead h part s
  | .demand h hd dd sd wd => Sys2Proof.Machine.execDemand h hd dd sd wd s
  | .openChannel h channel mode => Sys2Proof.Machine.execOpenChannel h channel mode s
  | .closeChannel h channel => Sys2Proof.Machine.execCloseChannel h channel s
  | .holdAll h => Sys2Proof.Machine.execHoldAll h s
  | .releaseAll h => Sys2Proof.Machine.execReleaseAll h s
  | .reference h axis payout => Sys2Proof.Machine.execReference h axis payout s
  | .resume h => Sys2Proof.Machine.execResume h s
  | .portReset h port => Sys2Proof.Machine.execPortReset h port s
  | .portDisable h port => Sys2Proof.Machine.execPortDisable h port s
  | .portGet h port => Sys2Proof.Machine.execPortGet h port s
  | .stageWindow h window marks base mask sector => Sys2Proof.Machine.execStageWindow h window marks base mask sector s
  | .stageSector h sector ceiling floor dmin dmax hoistCap dragCap swingCap => Sys2Proof.Machine.execStageSector h sector ceiling floor dmin dmax hoistCap dragCap swingCap s
  | .stageCurveLength h curve n => Sys2Proof.Machine.execStageCurveLength h curve n s
  | .stageCurvePoints h curve first points => Sys2Proof.Machine.execStageCurvePoints h curve first points s
  | .stageBrakeCurve h curve => Sys2Proof.Machine.execStageBrakeCurve h curve s
  | .stageClear h => Sys2Proof.Machine.execStageClear h s
  | .stageCopy h => Sys2Proof.Machine.execStageCopy h s
  | .commit h => Sys2Proof.Machine.execCommit h s
  | .commitCancel h => Sys2Proof.Machine.execCommitCancel h s
  | .configGet h bank item index first => Sys2Proof.Machine.execConfigGet h bank item index first s
  | .sectorAt h angle bank => Sys2Proof.Machine.execSectorAt h angle bank s
  | .legAppend h window steps speed => Sys2Proof.Machine.execLegAppend h window steps speed s
  | .legDrop h id => Sys2Proof.Machine.execLegDrop h id s
  | .planClear h => Sys2Proof.Machine.execPlanClear h s
  | .planGet h first => Sys2Proof.Machine.execPlanGet h first s
  | .walkStart h => Sys2Proof.Machine.execWalkStart h s
  | .walkHalt h => Sys2Proof.Machine.execWalkHalt h s
  | .define h code cls scope persistence cap polarity => Sys2Proof.Machine.execDefine h code cls scope persistence cap polarity s
  | .definitionGet h code => Sys2Proof.Machine.execDefinitionGet h code s
  | .raise h code value => Sys2Proof.Machine.execRaise h code value s
  | .clear h code => Sys2Proof.Machine.execClear h code s
  | .ack h code => Sys2Proof.Machine.execAck h code s
  | .ackAll h => Sys2Proof.Machine.execAckAll h s
  | .shelve h code minutes => Sys2Proof.Machine.execShelve h code minutes s
  | .unshelve h code => Sys2Proof.Machine.execUnshelve h code s
  | .silence h => Sys2Proof.Machine.execSilence h s
  | .alarmListFirst h => Sys2Proof.Machine.execAlarmListFirst h s
  | .alarmListNext h => Sys2Proof.Machine.execAlarmListNext h s
  | .alarmGet h code => Sys2Proof.Machine.execAlarmGet h code s
  | .frameError reason tag code => Sys2Proof.Machine.execFrameError reason tag code s
  | .unknownRequest tag code => Sys2Proof.Machine.execUnknownRequest tag code s
  | .selectFall gap => Sys2Proof.Machine.execSelectFall gap s
  | .powerOn => Sys2Proof.Machine.execPowerOn s
  | .resetNLow micros => Sys2Proof.Machine.execResetNLow micros s
  | .resetEnd resetN lines => Sys2Proof.Machine.execResetEnd resetN lines s
  | .axisSampleArrival axis faultLine => Sys2Proof.Machine.execAxisSampleArrival axis faultLine s
  | .ropeEncoderEdge rope edge => Sys2Proof.Machine.execRopeEncoderEdge rope edge s
  | .swingEncoderEdge edge => Sys2Proof.Machine.execSwingEncoderEdge edge s
  | .swingIndexMark => Sys2Proof.Machine.execSwingIndexMark s
  | .camToothEdge dir pulse => Sys2Proof.Machine.execCamToothEdge dir pulse s
  | .camIndexPassage dir pulse => Sys2Proof.Machine.execCamIndexPassage dir pulse s
  | .inclinometerFrame bytes => Sys2Proof.Machine.execInclinometerFrame bytes s
  | .inclinometerFrameGap gap => Sys2Proof.Machine.execInclinometerFrameGap gap s
  | .stalenessTimerExpiry => Sys2Proof.Machine.execStalenessTimerExpiry s
  | .externalInputSample levels => Sys2Proof.Machine.execExternalInputSample levels s
  | .presenceChange port active held => Sys2Proof.Machine.execPresenceChange port active held s
  | .resetSequenceTick port => Sys2Proof.Machine.execResetSequenceTick port s
  | .linkPeriodEvent port => Sys2Proof.Machine.execLinkPeriodEvent port s
  | .driveStatusFrame port bytes => Sys2Proof.Machine.execDriveStatusFrame port bytes s
  | .openTimerExpiry axis => Sys2Proof.Machine.execOpenTimerExpiry axis s
  | .walkOpenTimerExpiry => Sys2Proof.Machine.execWalkOpenTimerExpiry s
  | .restTimerExpiry channel => Sys2Proof.Machine.execRestTimerExpiry channel s
  | .demandTimerExpiry axis => Sys2Proof.Machine.execDemandTimerExpiry axis s
  | .walkDemandTimerExpiry => Sys2Proof.Machine.execWalkDemandTimerExpiry s
  | .brakeWatchTimerExpiry port => Sys2Proof.Machine.execBrakeWatchTimerExpiry port s
  | .commitTimerExpiry => Sys2Proof.Machine.execCommitTimerExpiry s
  | .shelveTimerExpiry code => Sys2Proof.Machine.execShelveTimerExpiry code s
  | .linkWatchdogExpiry => Sys2Proof.Machine.execLinkWatchdogExpiry s

end Sys2Proof.Machine
end

