-- ==== Sys2Proof/Machine/Ticking.lean ====
section
/-!
DEFINITION. The passing of a millisecond with no command waiting: every running timer has one millisecond less, and each
that runs out puts its expiry at the back of the queue (DESIGN CHOICE, assumption log 1).
-/

namespace Sys2Proof.Machine

/-- A timer one millisecond later. -/
def Timer.elapse (t : Timer) : Timer := { t with left := t.left - 1 }

/-- A timer, if running, one millisecond later. -/
def elapseAt (t : Option Timer) : Option Timer := t.map Timer.elapse

/-- The commands of a timer that runs out in this millisecond; a timer that has run out already gives none again. -/
def expiries (t : Option Timer) (i : Instr) : List Instr :=
  match t with
  | some t => if t.left = 1 then [i] else []
  | none => []

/-! ### Each block's timers -/

/-- The ASU a millisecond later. -/
def AxisUnit.elapse (u : AxisUnit) : AxisUnit :=
  { u with
    sampleTimers := ⟨elapseAt u.sampleTimers.hoist, elapseAt u.sampleTimers.drag, elapseAt u.sampleTimers.swing⟩
    staleTimer := elapseAt u.staleTimer }

/-- A channel a millisecond later. -/
def Channel.elapse (c : Channel) : Channel :=
  { c with demandTimer := elapseAt c.demandTimer, openTimer := elapseAt c.openTimer, restTimer := elapseAt c.restTimer }

/-- The walk channel a millisecond later. -/
def WalkChannel.elapse (w : WalkChannel) : WalkChannel :=
  { w with demandTimer := elapseAt w.demandTimer, openTimer := elapseAt w.openTimer, restTimer := elapseAt w.restTimer }

/-- A port a millisecond later. -/
def Port.elapse (p : Port) : Port :=
  { p with linkTimer := elapseAt p.linkTimer, watch := { p.watch with timer := elapseAt p.watch.timer } }

/-- An alarm record a millisecond later. -/
def AlarmRecord.elapse (r : AlarmRecord) : AlarmRecord := { r with shelve := elapseAt r.shelve }

/-- The banks a millisecond later. -/
def ConfigBanks.elapse (b : ConfigBanks) : ConfigBanks :=
  { b with commit := b.commit.map fun p => { p with timer := p.timer.elapse } }

/-! ### The expiries of a millisecond -/

/-- A sample arrival whose timer runs out, with the fault line as last read (assumption log 1). -/
def State.sampleExpiry (s : State) (a : Axis) : List Instr :=
  expiries (s.asu.sampleTimers.get a) (.axisSampleArrival a (s.lines.fault.get a))

/-- The expiries of one channel's timers. -/
def State.channelExpiries (s : State) (a : Axis) : List Instr :=
  let c := s.channels.get a
  expiries c.openTimer (.openTimerExpiry a) ++ expiries c.restTimer (.restTimerExpiry a.motion) ++
    expiries c.demandTimer (.demandTimerExpiry a)

/-- The expiries of the walk channel's timers. -/
def State.walkExpiries (s : State) : List Instr :=
  expiries s.walk.openTimer .walkOpenTimerExpiry ++ expiries s.walk.restTimer (.restTimerExpiry .walk) ++
    expiries s.walk.demandTimer .walkDemandTimerExpiry

/-- The expiries of one port's timers: the link timer's by the port's state. -/
def State.portExpiries (s : State) (m : Motion) : List Instr :=
  let p := s.ports.get m
  expiries p.linkTimer (if p.state = .resetting then .resetSequenceTick m else .linkPeriodEvent m) ++
    expiries p.watch.timer (.brakeWatchTimerExpiry m)

/-- The expiry of a record's shelve timer. -/
def AlarmRecord.expiry (r : AlarmRecord) : List Instr := expiries r.shelve (.shelveTimerExpiry (BitVec.ofNat 8 r.code.num))

/-- Every expiry of a millisecond, in the order the model takes them: samples, external inputs, staleness, ports,
channels, walk, commit, shelve timers, watchdog (DESIGN CHOICE, assumption log 1). -/
def State.allExpiries (s : State) : List Instr :=
  s.sampleExpiry .hoist ++ s.sampleExpiry .drag ++ s.sampleExpiry .swing ++
  expiries s.inputTimer (.externalInputSample s.lines.inputs) ++ expiries s.asu.staleTimer .stalenessTimerExpiry ++
  s.portExpiries .hoist ++ s.portExpiries .drag ++ s.portExpiries .swing ++ s.portExpiries .walk ++
  s.channelExpiries .hoist ++ s.channelExpiries .drag ++ s.channelExpiries .swing ++ s.walkExpiries ++
  expiries (s.banks.commit.map PendingCommit.timer) .commitTimerExpiry ++
  s.table.records.flatMap AlarmRecord.expiry ++ expiries s.sup.watchdog .linkWatchdogExpiry

/-- A millisecond passes; during a reset no timer runs (R185). -/
def State.tick (s : State) : State :=
  if s.inReset then s
  else
    { s with
      asu := s.asu.elapse
      banks := s.banks.elapse
      channels := ⟨s.channels.hoist.elapse, s.channels.drag.elapse, s.channels.swing.elapse⟩
      walk := s.walk.elapse
      ports := ⟨s.ports.hoist.elapse, s.ports.drag.elapse, s.ports.swing.elapse, s.ports.walk.elapse⟩
      inputTimer := elapseAt s.inputTimer
      table := { s.table with records := s.table.records.map AlarmRecord.elapse }
      sup := { s.sup with watchdog := elapseAt s.sup.watchdog }
      pending := s.allExpiries }

end Sys2Proof.Machine
end

