-- ==== Sys2Proof/Machine/Step.lean ====
section
/-!
DEFINITION. The step: the command at the front of the queue, or, on an empty queue, one millisecond of the part's own
time (assumption log 1).
-/

namespace Sys2Proof.Machine

/-- One step. A command at the front is carried out on the state with the queue's rest; an empty queue lets a
millisecond pass (assumption log 1). -/
def step (s : State) : Host.Outcome State Fault Refusal :=
  match s.pending with
  | [] => .next s.tick
  | i :: rest => exec i { s with pending := rest }

/-- The state with the command a table word spells put at the front of its queue; the table gives no row any bits, so no
word spells a command and the state stays (assumption log 5). -/
def State.withFetchWord (s : State) (nbits w : Nat) : State :=
  match decodeTableWord nbits w with
  | some i => { s with pending := i :: s.pending }
  | none => s

end Sys2Proof.Machine
end

