-- ==== Sys2Proof/Safety.lean ====
section
/-!
DEFINITION. What counts as a sound state of the SGH-740, in the terms the claims use: outputs that agree with the records
they follow, a consequence set that has reached its receivers, the interlocks of channels, ports and walk, and the ranges
and shapes the manual gives its records.
-/

namespace Sys2Proof.Machine

/-! ### Outputs (R174, R175, R178, R184, R192) -/

/-- SAFE_RUN follows the operating state, ATTN the flags and their mask, HORN and BEACON the table; every output is low in a
reset. -/
def State.outputsAgree (s : State) : Prop :=
  s.pins.safeRun = (s.sup.operating == .ready) ∧ s.pins.attn = attnLevel s.rport.flags s.rport.mask ∧
    s.pins.horn = s.table.hornLevel ∧ s.pins.beacon = s.table.beaconLevel ∧
    (s.inReset = true → s.pins = ⟨false, false, false, false⟩)

/-! ### Alarms (R169, R180) -/

/-- A channel holds its part of the consequence set last delivered (R43, R80). -/
def State.channelHasSet (s : State) (a : Axis) : Prop :=
  (s.channels.get a).derate = s.table.consequence.derate.get a.motion ∧
    (s.channels.get a).alarmHold = s.table.consequence.hold.get a.motion

/-- The consequence set is that of the records in effect, every receiver holds it, and a STOP record in effect finds the part
TRIPPED. -/
def State.alarmsDelivered (s : State) : Prop :=
  s.table.consequence = s.table.formConsequence ∧
    s.channelHasSet .hoist ∧ s.channelHasSet .drag ∧ s.channelHasSet .swing ∧
    (s.walk.derate = s.table.consequence.derate.walk ∧ s.walk.alarmHold = s.table.consequence.hold.walk) ∧
    s.sup.tripDemand = s.table.consequence.trip ∧
    (s.table.consequence.trip = true → s.sup.operating = .tripped)

/-! ### Interlocks (R68, R71, R80, R88, R119, R122, R178) -/

/-- A rope or swing channel that is not CLOSED has its port ENABLED and the part READY; its hold sources are those now
present; in OPENING and RUNNING there is none, and in PARKED there is one that is not UNREFERENCED (R84). -/
def State.channelInterlocked (s : State) (a : Axis) : Prop :=
  let c := s.channels.get a
  (c.state ≠ .closed → (s.ports.get a.motion).state = .enabled ∧ s.sup.operating = .ready) ∧
    c.holds = s.holdSet c ∧ (c.state = .opening ∨ c.state = .running → c.holds.any = false) ∧
    (c.state = .parked → c.holds.any = true ∧ c.holds.unreferenced = false)

/-- A walk channel that is not IDLE has P3 ENABLED, and outside STOPPED the part READY; its halt sources are those now
present; in STEPPING and HALTING every other channel is CLOSED or PARKED (R105 check 4, R107). -/
def State.walkInterlocked (s : State) : Prop :=
  (s.walk.state ≠ .idle → s.ports.walk.state = .enabled) ∧
    (s.walk.state ≠ .idle → s.walk.state ≠ .stopped → s.sup.operating = .ready) ∧
    s.walk.halts = ⟨s.holdAll, s.walk.alarmHold⟩ ∧
    (s.walk.state = .stepping ∨ s.walk.state = .halting → s.allResting = true)

/-- Every channel is interlocked. -/
def State.interlocked (s : State) : Prop :=
  s.channelInterlocked .hoist ∧ s.channelInterlocked .drag ∧ s.channelInterlocked .swing ∧ s.walkInterlocked

/-- A channel is moving or about to: OPENING or RUNNING. -/
def Channel.isMoving (c : Channel) : Bool := c.state == .opening || c.state == .running

/-! ### Channel records (R69 to R90, R97, R107 to R121) -/

/-- A channel state in which the enable is on: OPENING, RUNNING, PARKING and CLOSING. -/
def ChannelState.isEnabled : ChannelState → Bool
  | .opening => true
  | .running => true
  | .parking => true
  | .closing => true
  | _ => false

/-- The fields of a channel record agree with its state: which timer may run, where the enable is on, which brake command
stands, and what is 0. Brake command SET never stands with a reference that is not 0. -/
def Channel.recordAgrees (c : Channel) : Prop :=
  (c.openTimer.isSome = true ↔ c.state = .opening) ∧
    (c.demandTimer.isSome = true ↔ c.state.isOpen = true ∧ c.expired = false) ∧
    (c.expired = true → c.state.isOpen = true) ∧ (c.demand ≠ 0 → c.state.isOpen = true ∧ c.expired = false) ∧
    (c.restTimer.isSome = true → (c.state = .parking ∨ c.state = .closing) ∧ c.brake = .release ∧ c.reference = 0) ∧
    c.enable = c.state.isEnabled ∧
    (c.state = .opening ∨ c.state = .running → c.brake = .release) ∧
    (c.state = .closed ∨ c.state = .parked → c.brake = .apply) ∧
    (c.brake = .apply → c.reference = 0) ∧ (c.state = .opening → c.reference = 0) ∧
    (c.state ≠ .running → c.permitted = 0)

/-- A walk state in which the enable is on: all but IDLE and STOPPED. -/
def WalkState.isEnabled : WalkState → Bool
  | .idle => false
  | .stopped => false
  | _ => true

/-- A walk state in which the brake command is OPEN throughout: OPENING, STEPPING, HALTING and MAINT. -/
def WalkState.isReleased : WalkState → Bool
  | .opening => true
  | .stepping => true
  | .halting => true
  | .maint => true
  | _ => false

/-- The fields of the walk channel record agree with its state: a target in OPENING only, a closing origin in CLOSING only, a
run in the states that step and on the way to them, a reverse run never counted, and the rest as for a channel. That the run is
there in OPENING with target STEP too is DEDUCED (assumption log 12; R97 lists RECOVER and HALT), and that the open timer never
runs in CLOSING is a DESIGN CHOICE (assumption log 34). -/
def WalkChannel.recordAgrees (w : WalkChannel) : Prop :=
  (w.target.isSome = true ↔ w.state = .opening) ∧ (w.closing.isSome = true ↔ w.state = .closing) ∧
    (w.run.isSome = true ↔
      w.state = .stepping ∨ w.state = .halting ∨ (w.state = .opening ∧ w.target ≠ some .maint)) ∧
    (∀ r, w.run = some r → r.dir = .reverse → r.counted = false) ∧
    (w.openTimer.isSome = true ↔ w.state = .opening) ∧
    (w.demandTimer.isSome = true → w.state = .maint ∨ (w.state = .opening ∧ w.target = some .maint)) ∧
    (w.demand ≠ 0 → w.demandTimer.isSome = true) ∧
    (w.restTimer.isSome = true → w.state = .closing ∧ w.brake = .release ∧ w.reference = 0) ∧
    w.enable = w.state.isEnabled ∧ (w.state.isReleased = true → w.brake = .release) ∧
    (w.state.isEnabled = false → w.brake = .apply) ∧ (w.brake = .apply → w.reference = 0) ∧
    (w.state = .opening → w.reference = 0) ∧
    (w.state ≠ .stepping → w.state ≠ .halting → w.state ≠ .maint → w.permitted = 0)

/-- Every channel record agrees with its state. -/
def State.recordsAgree (s : State) : Prop :=
  s.channels.hoist.recordAgrees ∧ s.channels.drag.recordAgrees ∧ s.channels.swing.recordAgrees ∧ s.walk.recordAgrees

/-! ### Ports (R125, R126, R133) -/

/-- A port's link timer runs in RESETTING and ENABLED only, its phase stands in RESETTING only, outside ENABLED nothing is
outstanding and the brake watch is cleared, and the third miss is never left in ENABLED. -/
def Port.isSound (p : Port) : Prop :=
  (p.linkTimer.isSome = true ↔ p.state = .resetting ∨ p.state = .enabled) ∧
    (p.phase.isSome = true ↔ p.state = .resetting) ∧
    (p.state ≠ .enabled → p.outstanding = none ∧ p.watch = BrakeWatch.cleared) ∧
    p.misses ≤ Config.maxMisses ∧ (p.state = .enabled → p.misses < Config.maxMisses)

/-- Every port is sound. -/
def State.portsSound (s : State) : Prop :=
  s.ports.hoist.isSound ∧ s.ports.drag.isSound ∧ s.ports.swing.isSound ∧ s.ports.walk.isSound

/-! ### Ranges (R3, R4, R7, R14, R49, R75, R99, R195) -/

/-- A rope axis within its range. -/
def RopeAxis.inRange (x : RopeAxis) : Prop := x.payout ≤ Config.maxPayout ∧ x.refPayout ≤ Config.maxPayout

/-- Every setting, position and tilt within its range. -/
def State.sensingInRange (s : State) : Prop :=
  (∀ k ∈ Setting.all, k.row.lo ≤ s.cfg k ∧ s.cfg k ≤ k.row.hi) ∧
    s.asu.hoist.inRange ∧ s.asu.drag.inRange ∧
    s.asu.swing.count < s.cfg .swingCpt ∧ s.asu.swing.indexCount < s.cfg .swingCpt ∧
    s.asu.pitch.natAbs ≤ 3000 ∧ s.asu.roll.natAbs ≤ 3000

/-- A channel's demand, permitted value and reference within ±1000. -/
def Channel.speedsInRange (c : Channel) : Prop :=
  c.demand.natAbs ≤ 1000 ∧ c.permitted.natAbs ≤ 1000 ∧ c.reference.natAbs ≤ 1000

/-- Every channel's speeds within range. -/
def State.speedsInRange (s : State) : Prop :=
  s.channels.hoist.speedsInRange ∧ s.channels.drag.speedsInRange ∧ s.channels.swing.speedsInRange ∧
    (s.walk.demand.natAbs ≤ 1000 ∧ s.walk.permitted.natAbs ≤ 1000 ∧ s.walk.reference.natAbs ≤ 1000)

/-! ### The walk plan (R99) -/

/-- A leg within its ranges, with steps left to do. -/
def Leg.inRange (l : Leg) : Prop :=
  1 ≤ l.id ∧ l.id ≤ 255 ∧ l.stepsDone < l.steps ∧ l.steps ≤ 63 ∧ 100 ≤ l.speed ∧ l.speed ≤ 1000

/-- At most eight legs, each within its ranges, no two with one id, and a next id from 1 to 255. -/
def State.planSound (s : State) : Prop :=
  s.plan.length ≤ Config.maxLegs ∧ (∀ l ∈ s.plan, l.inRange) ∧ (s.plan.map Leg.id).Nodup ∧
    1 ≤ s.nextLegId ∧ s.nextLegId ≤ 255

/-! ### The alarm table and the definitions (R143, R154, R158, R171, R172) -/

/-- At most 32 ordinary records and one record per code, code 27 in its slot alone; no class below its floor; a marked code is
ACTIVE, is not code 27, and has no record; and the list cursor is at start or on a record of the table (R171, R172). -/
def State.tableSound (s : State) : Prop :=
  s.table.records.length ≤ Config.maxRecords ∧ (s.table.records.map AlarmRecord.code).Nodup ∧
    (∀ r ∈ s.table.records, r.code ≠ .tableOverflow) ∧ (∀ r ∈ s.table.overflow, r.code = .tableOverflow) ∧
    (∀ r ∈ s.table.listing, r.code.floor.rank ≤ r.cls.rank) ∧
    (∀ c ∈ Code.all, (s.definition c).floor = c.floor ∧ c.floor.rank ≤ (s.definition c).cls.rank) ∧
    (∀ c ∈ Code.all, (s.definition c).pendingMark = true →
      c ≠ .tableOverflow ∧ (s.definition c).active = true ∧ s.table.find c = none) ∧
    (∀ c ∈ s.table.cursor, (s.table.find c).isSome = true)

/-- A record whose code is ACTIVE: ACTIVE_UNACK, ACTIVE_ACK or SHELVED (R157). -/
def AlarmRecord.isActive (r : AlarmRecord) : Bool := decide (r.state ≠ .clearedUnack)

/-- A code is ACTIVE exactly when it is marked or holds a record that is not CLEARED_UNACK; a shelve timer runs in SHELVED
only; and persistence is within its range, 0 where DEFINE does not set it (R145, R146, R149, R154, R157). -/
def State.codesAgree (s : State) : Prop :=
  (∀ c ∈ Code.all, (s.definition c).active =
    ((s.definition c).pendingMark || (s.table.find c).any AlarmRecord.isActive)) ∧
    (∀ r ∈ s.table.listing, r.shelve.isSome = true ↔ r.state = .shelved) ∧
    (∀ c ∈ Code.all, (s.definition c).persistence ≤ 15 ∧
      (c.persistenceSettable = false → (s.definition c).persistence = 0))

/-- Some port is in breach (R138). -/
def State.someBreach (s : State) : Bool :=
  s.ports.hoist.watch.inBreach || s.ports.drag.watch.inBreach || s.ports.swing.watch.inBreach ||
    s.ports.walk.watch.inBreach

/-- DEMAND_LOST_x follows a channel's expired mark, but for a channel in CLOSING: there the mark is clear and the sample false
waits for the entry into CLOSED (R76, R85, R87). -/
def State.demandLostFollows (s : State) (a : Axis) : Prop :=
  let c := s.channels.get a
  (c.expired = true → (s.definition (.demandLost a)).active = true) ∧
    ((s.definition (.demandLost a)).active = true → c.expired = true ∨ c.state = .closing)

/-- The conditions of persistence 0 that stand for a state of the part follow it: LINK_LOST, DEMAND_LOST_x, BRAKE_MISMATCH,
MAINT_MOTION and TABLE_OVERFLOW (R76, R93, R122, R138, R155, R182). -/
def State.conditionsFollow (s : State) : Prop :=
  (s.definition .linkLost).active = s.sup.lapsed ∧
    (∀ a, s.demandLostFollows a) ∧
    (s.definition .brakeMismatch).active = s.someBreach ∧
    (s.definition .maintMotion).active = s.maintMotionRaw ∧
    (s.definition .tableOverflow).active = s.limitingMark

/-! ### Banks (R52, R60, R61, R64) -/

/-- The bank the channels obey has passed validation once a commit has completed, and so has STAGED while a commit is
pending. -/
def State.banksValidated (s : State) : Prop :=
  (s.banks.generation ≠ 0 → s.banks.active.validate = none) ∧
    (s.banks.commit.isSome = true → s.banks.staged.validate = none)

/-! ### Requests and responses (R186 to R188, 12.3) -/

/-- The header and the code of a request (12.3); none for every other command. -/
def requestOf : Instr → Option (Header × Byte)
  | .nop h => some (h, 0x01#8)
  | .status h => some (h, 0x02#8)
  | .reset r => some (r.header, 0x03#8)
  | .set h _ _ => some (h, 0x04#8)
  | .get h _ => some (h, 0x05#8)
  | .eventsAck h _ => some (h, 0x06#8)
  | .eventsMask h _ => some (h, 0x07#8)
  | .snapshot h => some (h, 0x08#8)
  | .snapshotRead h _ => some (h, 0x09#8)
  | .demand h _ _ _ _ => some (h, 0x10#8)
  | .openChannel h _ _ => some (h, 0x11#8)
  | .closeChannel h _ => some (h, 0x12#8)
  | .holdAll h => some (h, 0x13#8)
  | .releaseAll h => some (h, 0x14#8)
  | .reference h _ _ => some (h, 0x15#8)
  | .resume h => some (h, 0x16#8)
  | .portReset h _ => some (h, 0x18#8)
  | .portDisable h _ => some (h, 0x19#8)
  | .portGet h _ => some (h, 0x1A#8)
  | .stageWindow h _ _ _ _ _ => some (h, 0x20#8)
  | .stageSector h _ _ _ _ _ _ _ _ => some (h, 0x21#8)
  | .stageCurveLength h _ _ => some (h, 0x22#8)
  | .stageCurvePoints h _ _ _ => some (h, 0x23#8)
  | .stageBrakeCurve h _ => some (h, 0x24#8)
  | .stageClear h => some (h, 0x25#8)
  | .stageCopy h => some (h, 0x26#8)
  | .commit h => some (h, 0x27#8)
  | .commitCancel h => some (h, 0x28#8)
  | .configGet h _ _ _ _ => some (h, 0x29#8)
  | .sectorAt h _ _ => some (h, 0x2A#8)
  | .legAppend h _ _ _ => some (h, 0x30#8)
  | .legDrop h _ => some (h, 0x31#8)
  | .planClear h => some (h, 0x32#8)
  | .planGet h _ => some (h, 0x33#8)
  | .walkStart h => some (h, 0x34#8)
  | .walkHalt h => some (h, 0x35#8)
  | .define h _ _ _ _ _ _ => some (h, 0x40#8)
  | .definitionGet h _ => some (h, 0x41#8)
  | .raise h _ _ => some (h, 0x42#8)
  | .clear h _ => some (h, 0x43#8)
  | .ack h _ => some (h, 0x44#8)
  | .ackAll h => some (h, 0x45#8)
  | .shelve h _ _ => some (h, 0x46#8)
  | .unshelve h _ => some (h, 0x47#8)
  | .silence h => some (h, 0x48#8)
  | .alarmListFirst h => some (h, 0x49#8)
  | .alarmListNext h => some (h, 0x4A#8)
  | .alarmGet h _ => some (h, 0x4B#8)
  | _ => none

/-- The lengths allowed for each request code (12.3). -/
def allowedLengths (code : Byte) : List Nat :=
  match code.toNat with
  | 0x04 => [3]
  | 0x05 => [1]
  | 0x06 => [2]
  | 0x07 => [2]
  | 0x09 => [1]
  | 0x10 => [8]
  | 0x11 => [2]
  | 0x12 => [1]
  | 0x15 => [3]
  | 0x18 => [1]
  | 0x19 => [1]
  | 0x1A => [1]
  | 0x20 => [7]
  | 0x21 => [13]
  | 0x22 => [2]
  | 0x23 => [6, 10, 14, 18, 22, 26]
  | 0x24 => [1]
  | 0x29 => [4]
  | 0x2A => [3]
  | 0x30 => [4]
  | 0x31 => [1]
  | 0x33 => [1]
  | 0x40 => [7]
  | 0x41 => [1]
  | 0x42 => [1, 3]
  | 0x43 => [1]
  | 0x44 => [1]
  | 0x46 => [2]
  | 0x47 => [1]
  | 0x4B => [1]
  | _ => [0]

/-- The port takes a request frame whose length field is a number (R184, R188). -/
def State.takesFrame (s : State) (h : Header) (n : Nat) : Prop := s.takesNothing = false ∧ h.len.toNat = n

/-- The response to a request, as it lands in the buffer (R186): the echoes, a status and a payload. -/
def State.answer (s : State) (h : Header) (code : Byte) (status : Status) (payload : List Byte) : State :=
  s.respond ⟨h.tag, code, status, payload⟩

/-- The response to a request that reads: OK with what it reads, NO_SUCH when there is nothing to read. -/
def State.answerRead (s : State) (h : Header) (code : Byte) (payload : Option (List Byte)) : State :=
  match payload with
  | some p => s.answer h code .ok p
  | none => s.answer h code .noSuch []

/-- The first refusal of a list of checks in order: the status of the first condition that holds. -/
def firstRefusal : List (Bool × Status) → Option Status
  | [] => none
  | (true, x) :: _ => some x
  | (false, _) :: rest => firstRefusal rest

/-- A status that refuses: every one but OK, OK_CLAMPED and ACCEPTED (12.5). -/
def Status.refuses : Status → Bool
  | .ok => false
  | .okClamped => false
  | .accepted => false
  | _ => true

/-! ### Channels and the walk -/

/-- A timer started at the BRAKE_TIMEOUT in force. -/
def State.brakeStart (s : State) : Option Timer := some ⟨s.cfg .brakeTimeout, s.cfg .brakeTimeout⟩

/-- What an entry into CLOSED leaves of a channel record (R87). -/
def Channel.closedBy (c : Channel) (cause : HaltCause) : Channel :=
  { c with
    state := .closed, reference := 0, permitted := 0, enable := false, brake := .apply, demand := 0
    expired := false, demandTimer := none, openTimer := none, restTimer := none, lastCause := some cause }

/-- What an entry into IDLE leaves of the walk channel record (R115). -/
def WalkChannel.idledBy (w : WalkChannel) (cause : HaltCause) : WalkChannel :=
  { w with
    state := .idle, target := none, run := none, closing := none, demand := 0, demandTimer := none, permitted := 0
    reference := 0, enable := false, brake := .apply, openTimer := none, restTimer := none, lastCause := some cause }

/-- What an entry into STOPPED leaves of the walk channel record (R117). -/
def WalkChannel.stoppedBy (w : WalkChannel) (cause : HaltCause) : WalkChannel :=
  { w with
    state := .stopped, target := none, run := none, closing := none, permitted := 0, reference := 0, enable := false
    brake := .apply, openTimer := none, restTimer := none, lastCause := some cause }

/-- What an entry into CLOSING with origin PARK leaves of the walk channel record: the reference 0 at once, the rest timer
started (R115). -/
def WalkChannel.closingAtPark (w : WalkChannel) (timer : Option Timer) (cause : HaltCause) : WalkChannel :=
  { w with
    state := .closing, target := none, run := none, closing := some ⟨.park, cause⟩, demand := 0, demandTimer := none
    permitted := 0, reference := 0, openTimer := none, restTimer := timer }

/-- What an entry into CLOSING with origin OTHER leaves of the walk channel record: the reference ramps, the rest timer started
where it is 0 already (R115). -/
def WalkChannel.closingElsewhere (w : WalkChannel) (timer : Option Timer) (cause : HaltCause) : WalkChannel :=
  { w with
    state := .closing, target := none, run := none, closing := some ⟨.other, cause⟩, demand := 0, demandTimer := none
    permitted := 0, openTimer := none, restTimer := if w.reference = 0 then timer else none }

/-- The HOIST, DRAG and SWING channels are each CLOSED or PARKED (R63, R105 check 4). -/
def State.channelsRest (s : State) : Prop := ∀ a, (s.channels.get a).state = .closed ∨ (s.channels.get a).state = .parked

/-- A window of a bank admits the present swing angle to a walk: enabled, with WALK, covering the angle (R20, R26). -/
def State.windowAdmits (s : State) (b : Bank) (i : Fin 16) : Prop :=
  b.windows[i].enable = true ∧ b.windows[i].walk = true ∧ s.asu.swing.angle &&& b.windows[i].mask = b.windows[i].base

/-- A reference moved toward 0 by a step, not across it: the ramp of R78 for a permitted value of 0. -/
def easedToZero (r : Int) (step : Nat) : Int :=
  if r.natAbs ≤ step then 0 else if 0 < r then r - step else r + step

/-- The status of an OPEN of a rope or swing channel by the checks of R71 in their order. -/
def State.openChecks (r : State) (a : Axis) (mode : Mode) : Option Status :=
  firstRefusal
    [(r.sup.operating == .start, .notConfigured), (r.sup.operating == .tripped, .tripActive),
      ((r.channels.get a).state == .closing, .busy), ((r.channels.get a).state != .closed, .state),
      ((r.ports.get a.motion).state != .enabled, .portNotEnabled),
      (r.walk.state == .stepping || r.walk.state == .halting || r.walk.state == .stopped || r.walk.state == .maint,
        .walkActive),
      (mode == .follow && !(r.asu.hoist.referenced && r.asu.drag.referenced && r.asu.swing.referenced), .notReferenced)]

/-- A halt of the walk channel in OPENING, STEPPING or MAINT: what state and deliveries it leaves (R108, R112, R114). -/
def State.haltOutcome (r : State) (cause : HaltCause) : State × List Act :=
  match r.walk.state, r.walk.target with
  | .opening, some .step => r.walkToClosing .other cause
  | .opening, some .maint => r.walkToClosing .other cause
  | .opening, some .recover => (r.setWalk { r.walk with target := some .halt }, [])
  | .stepping, _ =>
    if r.asu.camReferenced = true ∧ r.asu.teeth = 0#6 then r.walkToClosing .park .halt
    else if r.asu.teeth.toNat ≤ 15 then r.walkToHalting .reverse false
    else r.walkToHalting .forward true
  | .maint, _ => r.walkToClosing .other cause
  | _, _ => (r, [])

/-! ### Resets (R184) -/

/-- What the beginning of a reset of a kind leaves (R184): every block at its reset values, no timer running, no flag, mask
or snapshot, every output line low; a transaction in progress sends zeros and is not taken (assumption log 29); the queue and
the input lines as they were. -/
def State.resetBegun (s t : State) (cause : ResetCause) : Prop :=
  t.resetting = some cause ∧ t.sup = ⟨.start, cause, false, false, none⟩ ∧
    t.asu = { AxisUnit.blank with sampleTimers := ⟨none, none, none⟩, staleTimer := none } ∧ t.inputTimer = none ∧
    t.banks = ConfigBanks.blank ∧ (∀ a, t.channels.get a = Channel.blank) ∧ t.holdAll = false ∧ t.holdEffective = false ∧
    t.walk = WalkChannel.blank ∧ t.plan = [] ∧ t.nextLegId = 1 ∧ (∀ m, t.ports.get m = Port.blank) ∧
    (∀ c, t.definition c = c.defaultDefinition) ∧ t.table = AlarmTable.blank ∧ (∀ k, t.cfg k = k.row.dflt) ∧
    t.rport.flags = 0#16 ∧ t.rport.mask = 0#16 ∧ t.rport.snapshot = Snapshot.blank ∧
    t.rport.sending = List.replicate 32 0#8 ∧ t.rport.selectLow = s.rport.selectLow ∧
    t.rport.untaken = (s.rport.selectLow || s.rport.untaken) ∧
    t.pins = ⟨false, false, false, false⟩ ∧ t.lines = s.lines ∧ t.pending = s.pending

/-- What the end of a reset with a cause leaves (R13, R18, R127, R151, R182, R185, R190): every block at its reset values, the
timers started, RESET_DONE set, the cam referenced where PARK is active, a port whose presence line is active ATTACHED, the
reset response in the buffer; a transaction in progress as it was; the queue and the other input lines as they were. -/
def State.resetEnded (s t : State) (cause : ResetCause) (lines : ResetLines) : Prop :=
  t.resetting = none ∧ t.sup = ⟨.start, cause, false, false, some ⟨500, 500⟩⟩ ∧
    t.asu = { AxisUnit.blank with camReferenced := lines.park } ∧ t.inputTimer = some ⟨10, 10⟩ ∧
    t.asu.sampleTimers = ⟨some ⟨5, 5⟩, some ⟨5, 5⟩, some ⟨5, 5⟩⟩ ∧ t.asu.staleTimer = some ⟨500, 500⟩ ∧
    (∀ m, t.ports.get m =
      if lines.presence.getLsbD (motionCode m) then { Port.blank with state := .attached, lastCause := some .presenceOn }
      else Port.blank) ∧
    (∀ f : EventFlag, f.isIn t.rport.flags = true ↔ f = .resetDone ∨ (f = .portChange ∧ lines.presence ≠ 0#4)) ∧
    t.rport.mask = 0#16 ∧ t.pins = ⟨false, false, false, true⟩ ∧ t.rport.buffer = ⟨0#8, 0#8, .ok, []⟩ ∧
    t.rport.previous = ⟨0#8, 0#8, .ok, []⟩ ∧ t.rport.selectLow = s.rport.selectLow ∧ t.rport.untaken = s.rport.untaken ∧
    t.rport.snapshot = Snapshot.blank ∧ t.banks = ConfigBanks.blank ∧ (∀ a, t.channels.get a = Channel.blank) ∧
    t.walk = WalkChannel.blank ∧ t.plan = [] ∧ t.nextLegId = 1 ∧ t.holdAll = false ∧ t.holdEffective = false ∧
    (∀ c, t.definition c = c.defaultDefinition) ∧ t.table = AlarmTable.blank ∧ (∀ k, t.cfg k = k.row.dflt) ∧
    t.lines = s.lines ∧ t.pending = s.pending

/-! ### All together -/

/-- A sound state: every invariant of this file holds. Obligations.SoundAtReset says the reset state is sound, and the
invariants' statements that every step from a sound state keeps each of them. -/
def State.sound (s : State) : Prop :=
  s.outputsAgree ∧ s.alarmsDelivered ∧ s.interlocked ∧ s.recordsAgree ∧ s.portsSound ∧ s.sensingInRange ∧
    s.speedsInRange ∧ s.planSound ∧ s.tableSound ∧ s.codesAgree ∧ s.conditionsFollow ∧ s.banksValidated

end Sys2Proof.Machine
end

