-- ==== Sys2Proof/Certificates/Slice0/Obligations.lean ====
section
/-!
DEFINITION. The statements for the provers. Where one says settle (u, acts), u is the state an event leaves by its own rule
and acts the deliveries that rule hands on, performed in order (R184 apart, outside a reset).
-/

open Sys2Proof Sys2Proof.Machine

/-! ## The queue, the reset state, the invariants at reset -/

/-- A step carries out the command at the front of the queue on the state with the queue's rest. -/
def Obligations.StepRunsFrontCommand : Prop :=
  ∀ (c : Instr) (rest : List Instr) (s : State), s.pending = c :: rest → step s = exec c { s with pending := rest }

/-- On an empty queue a step lets one millisecond pass (the model's choice, assumption log 1): outside a reset every running
timer of the part has one millisecond less and nothing else of any block moves; a timer with one millisecond left puts its
expiry on the queue, a sample arrival with its fault line and an external input sample with the levels as last read, and
nothing else comes there; in a reset nothing happens. -/
def Obligations.IdleStepPassesAMillisecond : Prop :=
  ∀ s : State, s.pending = [] → ∃ t, step s = .next t ∧ (s.inReset = true → t = s) ∧
    (s.inReset = false →
      let less (x : Option Timer) : Option Timer := x.map fun y => ⟨y.period, y.left - 1⟩
      let out (x : Option Timer) : Prop := ∃ y, x = some y ∧ y.left = 1
      (t = { s with
        asu := t.asu, banks := t.banks, channels := t.channels, walk := t.walk, ports := t.ports, inputTimer := less s.inputTimer
        table := t.table, sup := { s.sup with watchdog := less s.sup.watchdog }, pending := t.pending }) ∧
      t.asu = { s.asu with sampleTimers := t.asu.sampleTimers, staleTimer := less s.asu.staleTimer } ∧
      (∀ a, t.asu.sampleTimers.get a = less (s.asu.sampleTimers.get a)) ∧
      t.banks = { s.banks with commit := s.banks.commit.map fun p => { p with timer := ⟨p.timer.period, p.timer.left - 1⟩ } } ∧
      (∀ a, let c := s.channels.get a
        t.channels.get a = { c with
          demandTimer := less c.demandTimer, openTimer := less c.openTimer, restTimer := less c.restTimer }) ∧
      t.walk = { s.walk with
        demandTimer := less s.walk.demandTimer, openTimer := less s.walk.openTimer, restTimer := less s.walk.restTimer } ∧
      (∀ m, let p := s.ports.get m
        t.ports.get m = { p with linkTimer := less p.linkTimer, watch := { p.watch with timer := less p.watch.timer } }) ∧
      t.table = { s.table with records := s.table.records.map fun r => { r with shelve := less r.shelve } } ∧
      (∀ a line, Instr.axisSampleArrival a line ∈ t.pending ↔ out (s.asu.sampleTimers.get a) ∧ line = s.lines.fault.get a) ∧
      (∀ levels, Instr.externalInputSample levels ∈ t.pending ↔ out s.inputTimer ∧ levels = s.lines.inputs) ∧
      (Instr.stalenessTimerExpiry ∈ t.pending ↔ out s.asu.staleTimer) ∧
      (Instr.linkWatchdogExpiry ∈ t.pending ↔ out s.sup.watchdog) ∧
      (∀ a, (Instr.openTimerExpiry a ∈ t.pending ↔ out (s.channels.get a).openTimer) ∧
        (Instr.demandTimerExpiry a ∈ t.pending ↔ out (s.channels.get a).demandTimer) ∧
        (Instr.restTimerExpiry a.motion ∈ t.pending ↔ out (s.channels.get a).restTimer)) ∧
      (Instr.walkOpenTimerExpiry ∈ t.pending ↔ out s.walk.openTimer) ∧
      (Instr.walkDemandTimerExpiry ∈ t.pending ↔ out s.walk.demandTimer) ∧
      (Instr.restTimerExpiry .walk ∈ t.pending ↔ out s.walk.restTimer) ∧
      (∀ m, (Instr.linkPeriodEvent m ∈ t.pending ↔ out (s.ports.get m).linkTimer ∧ (s.ports.get m).state ≠ .resetting) ∧
        (Instr.resetSequenceTick m ∈ t.pending ↔ out (s.ports.get m).linkTimer ∧ (s.ports.get m).state = .resetting) ∧
        (Instr.brakeWatchTimerExpiry m ∈ t.pending ↔ out (s.ports.get m).watch.timer)) ∧
      (Instr.commitTimerExpiry ∈ t.pending ↔ ∃ p, s.banks.commit = some p ∧ p.timer.left = 1) ∧
      (∀ code, Instr.shelveTimerExpiry code ∈ t.pending ↔
        ∃ r ∈ s.table.records, out r.shelve ∧ code = BitVec.ofNat 8 r.code.num) ∧
      (∀ i ∈ t.pending, (∃ a line, i = .axisSampleArrival a line) ∨ (∃ levels, i = .externalInputSample levels) ∨
        i = .stalenessTimerExpiry ∨ i = .linkWatchdogExpiry ∨ (∃ a, i = .openTimerExpiry a) ∨ (∃ a, i = .demandTimerExpiry a) ∨
        (∃ m, i = .restTimerExpiry m) ∨ i = .walkOpenTimerExpiry ∨ i = .walkDemandTimerExpiry ∨ (∃ m, i = .linkPeriodEvent m) ∨
        (∃ m, i = .resetSequenceTick m) ∨ (∃ m, i = .brakeWatchTimerExpiry m) ∨ i = .commitTimerExpiry ∨
        (∃ code, i = .shelveTimerExpiry code)))

/-- What the model's reset state holds: each block at the values the manual gives for after a reset (R18, R52, R69, R97, R99,
R125, R151, R156, R176, R177, R182, R190 to R193, 12.10), the timers of R18, R151 and R182 started and every other timer
stopped, with the snapshot record all 0 (R193), and the encoder fault lines inactive, X0 to X7 low and no transaction in
progress, which are the model's choice (assumption log 2). That no inclinometer frame is in progress is the model's choice
(log 30). -/
def Obligations.ResetStateHolds : Prop :=
  let s := State.reset
  s.sup.operating = .start ∧ s.sup.cause = .power ∧ s.sup.tripDemand = false ∧ s.sup.lapsed = false ∧
    s.sup.watchdog = some ⟨500, 500⟩ ∧ s.inputTimer = some ⟨10, 10⟩ ∧
    (∀ a, let c := s.channels.get a
      c.state = .closed ∧ c.mode = .follow ∧ c.demand = 0 ∧ c.expired = false ∧ c.permitted = 0 ∧ c.reference = 0 ∧
        c.enable = false ∧ c.brake = .apply ∧ c.lastCause = none ∧ c.derate = 1000 ∧ c.holds = ⟨false, false, false, true⟩ ∧
        c.demandTimer = none ∧ c.openTimer = none ∧ c.restTimer = none) ∧
    (s.walk.state = .idle ∧ s.walk.target = none ∧ s.walk.run = none ∧ s.walk.closing = none ∧ s.walk.demand = 0 ∧
      s.walk.permitted = 0 ∧ s.walk.reference = 0 ∧ s.walk.enable = false ∧ s.walk.brake = .apply ∧
      s.walk.halts = ⟨false, false⟩ ∧ s.walk.lastCause = none ∧ s.walk.demandTimer = none ∧ s.walk.openTimer = none ∧
      s.walk.restTimer = none) ∧
    s.plan = [] ∧ s.nextLegId = 1 ∧ s.holdAll = false ∧ s.holdEffective = false ∧
    (∀ m, let p := s.ports.get m
      p.state = .detached ∧ p.sequence = 0#8 ∧ p.outstanding = none ∧ p.misses = 0 ∧ p.lastStatus = none ∧
        p.lastCause = none ∧ p.linkTimer = none ∧ p.phase = none ∧ p.watch = ⟨.apply, true, false, false, none⟩) ∧
    (s.banks.generation = 0 ∧ s.banks.commit = none ∧ s.banks.outcome = none ∧
      (∀ b, b = s.banks.active ∨ b = s.banks.staged →
        (∀ i : Fin 16, b.windows[i] = ⟨false, 0#12, 0#12, 0, false, false⟩) ∧
        (∀ i : Fin 9, b.sectors[i] = ⟨0, 0, 0, 0, 0, 0, 0⟩) ∧
        (∀ i : Fin 16, b.curves[i].count = 0 ∧ ∀ j : Fin 16, b.curves[i].slots[j] = ⟨0, 0⟩) ∧ b.brake = 0)) ∧
    (∀ c, s.definition c = c.defaultDefinition) ∧
    s.table.listing = [] ∧ s.table.sequence = 0 ∧ s.table.cursor = none ∧ s.table.silence = false ∧
    s.table.consequence = ⟨⟨1000, 1000, 1000, 1000⟩, ⟨false, false, false, false⟩, false⟩ ∧
    s.rport.flags = EventFlag.resetDone.word ∧ s.rport.mask = 0#16 ∧ s.rport.snapshot.capture = 0 ∧
    s.rport.buffer = ⟨0#8, 0#8, .ok, []⟩ ∧ (∀ k, s.cfg k = k.row.dflt) ∧
    s.asu.hoist = ⟨0#32, 0#32, 0, 0, false⟩ ∧ s.asu.drag = ⟨0#32, 0#32, 0, 0, false⟩ ∧ s.asu.swing = ⟨0, 0, 0#12, false⟩ ∧
    s.asu.teeth = 0#6 ∧ s.asu.camReferenced = false ∧ s.asu.pitch = 0 ∧ s.asu.roll = 0 ∧ s.asu.stale = true ∧
    s.asu.tiltFrame = [] ∧ (∀ a, s.asu.sampleTimers.get a = some ⟨5, 5⟩) ∧ s.asu.staleTimer = some ⟨500, 500⟩ ∧
    s.pins = ⟨false, false, false, true⟩ ∧ s.resetting = none ∧ s.pending = [] ∧
    s.lines.fault = ⟨false, false, false⟩ ∧ s.lines.inputs = 0#8 ∧
    (let x := s.rport.snapshot
      let zero : ChannelView := ⟨0, 0, 0, 0⟩
     x.generation = 0 ∧ x.h = 0 ∧ x.d = 0 ∧ x.swingAngle = 0 ∧ x.camAngle = 0 ∧ x.pitch = 0 ∧ x.roll = 0 ∧ x.stale = false ∧
       x.referenced = ⟨false, false, false, false⟩ ∧ x.channels = ⟨zero, zero, zero, zero⟩ ∧ x.sector = 0 ∧ x.hoistOut = 0 ∧
       x.hoistIn = 0 ∧ x.dragOut = 0 ∧ x.dragIn = 0 ∧ x.clockwise = 0 ∧ x.counterClockwise = 0) ∧
    s.rport.previous = ⟨0#8, 0#8, .ok, []⟩ ∧ s.rport.sending = List.replicate 32 0#8 ∧ s.rport.selectLow = false ∧
    s.rport.untaken = false

/-- The reset state is sound. -/
def Obligations.SoundAtReset : Prop := State.reset.sound

/-! ## Transactions (chapter 11) -/

/-- During a reset, and in a transaction whose select fell during one, no request is taken and nothing is checked: the
transaction only ends (R184, R187, R190). During a reset no field event, no timer and no RESET_N low has any effect. That a
reset lasts from its beginning until a RESET_END or a taken RESET reads RESET_N high, and that nothing but POWER_ON,
SELECT_FALL and RESET_END acts in it, is assumption log 6 (DESIGN CHOICE on R184). -/
def Obligations.NothingHappensInAReset : Prop :=
  (∀ (i : Instr) (s : State), s.takesNothing = true →
     ((∃ x, requestOf i = some x) ∨ (∃ r t c, i = .frameError r t c) ∨ (∃ t c, i = .unknownRequest t c)) →
     exec i s = .next { s with rport := { s.rport with selectLow := false, untaken := false } }) ∧
  (∀ (i : Instr) (s : State), s.inReset = true → requestOf i = none → (∀ r t c, i ≠ .frameError r t c) →
     (∀ t c, i ≠ .unknownRequest t c) → (∀ g, i ≠ .selectFall g) → i ≠ .powerOn → (∀ n k, i ≠ .resetEnd n k) →
     exec i s = .next s)

/-- Every taken request but RESET has restarted the link watchdog at the LINK_TIMEOUT in force when it was received, and leaves
it RUNNING, whatever its length, its status and its deliveries (R182). -/
def Obligations.EveryGoodFrameRestartsTheWatchdog : Prop :=
  ∀ (i : Instr) (h : Header) (code : Byte) (s : State), requestOf i = some (h, code) → (∀ x, i ≠ .reset x) →
    s.takesNothing = false →
    ∃ t, exec i s = .next t ∧ t.sup.lapsed = false ∧ t.sup.watchdog = some ⟨s.cfg .linkTimeout, s.cfg .linkTimeout⟩

/-- Every taken request but RESET is answered once: the response carries its echoes and at most 25 payload bytes, replaces the
one before, and the transaction has ended; the bytes clocked out meanwhile stay those fixed at the fall of select (R186,
R188). -/
def Obligations.EveryRequestIsAnswered : Prop :=
  ∀ (i : Instr) (h : Header) (code : Byte) (s : State), requestOf i = some (h, code) → (∀ x, i ≠ .reset x) →
    s.takesNothing = false →
    ∃ t, exec i s = .next t ∧ t.rport.buffer.tag = h.tag ∧ t.rport.buffer.code = code ∧
      t.rport.buffer.payload.length ≤ 25 ∧ t.rport.previous = s.rport.buffer ∧ t.rport.selectLow = false ∧
      t.rport.sending = s.rport.sending

/-- A refused request changes nothing but the response and the watchdog; WALK_START, whose failed checks sample
WALK_PRECONDITION (R106), and COMMIT, whose failed validation is recorded (R66), are apart. -/
def Obligations.ARefusedRequestChangesNothing : Prop :=
  ∀ (i : Instr) (h : Header) (code : Byte) (s t : State), requestOf i = some (h, code) → (∀ x, i ≠ .walkStart x) →
    (∀ x, i ≠ .commit x) → (∀ x, i ≠ .reset x) → s.takesNothing = false → exec i s = .next t →
    t.rport.buffer.status.refuses = true → t = s.receiveFrame.respond t.rport.buffer

/-- FRAME_ERROR, UNKNOWN_REQUEST, SELECT_FALL and wrong lengths. A transaction that fails its receipt checks is answered with
the reason and leaves the watchdog; a good frame whose code names no request is answered UNKNOWN_REQUEST and restarts it; a
fall of select fixes the 32 bytes sent: the buffer, zeros in a reset (R186, R190). The model's choice (assumption log 7,
DESIGN CHOICE): a response has landed exactly from a gap of 50 µs on, under it the buffer before it is sent, and a transaction
whose select fell in a reset is marked untaken. The receipt checks in their order, then the dispatch: a transaction of fewer
than 256 clock edges is SHORT, of more LONG, one whose byte 0 is not 0xA5 SYNC, one whose CRC differs CRC, and a good frame
whose code is in no row of 12.3 is UNKNOWN_REQUEST (R187, R188 step 1). A taken request with a length that 12.3 does not allow
is answered BAD_LENGTH, has restarted the watchdog, and changes nothing else (R188); that a RESET of a wrong length is so
answered, though R184 gives RESET no refusals, is assumption log 13 (DEDUCED from R190). A response is sent as the bytes of
12.2: sync 0x5A, the echoes, the status by 12.5, the length, the payload with zeros after it, and the CRC-16 of R187 over
bytes 0 to 29, high byte first. -/
def Obligations.TransactionsAreChecked : Prop :=
  ((∀ (r : FrameReason) (tag code : Byte) (s : State), s.takesNothing = false →
     exec (.frameError r tag code) s =
       .next { s with rport := { s.rport with
         selectLow := false, untaken := false, previous := s.rport.buffer
         buffer := ⟨tag, code, .frameError,
           [(match r with | .short => 1#8 | .long => 2#8 | .sync => 3#8 | .crc => 4#8)]⟩ } }) ∧
   (∀ (tag code : Byte) (s : State), s.takesNothing = false →
     exec (.unknownRequest tag code) s = .next (s.receiveFrame.respond ⟨tag, code, .unknownRequest, []⟩)) ∧
   (∀ (gap : Nat) (s : State),
     exec (.selectFall gap) s =
       .next { s with rport := { s.rport with
         selectLow := true, untaken := s.inReset
         sending :=
           if s.inReset then List.replicate 32 0#8
           else if 50 ≤ gap then s.rport.buffer.bytes else s.rport.previous.bytes } })) ∧
  (∀ (resetN : Bool) (lines : ResetLines) (edges : Nat) (b : List Byte), let read := decodeTransaction resetN lines edges b
     (edges < 256 → read = .frameError .short (byteAt b 1) (byteAt b 2)) ∧
     (256 < edges → read = .frameError .long (byteAt b 1) (byteAt b 2)) ∧
     (edges = 256 → byteAt b 0 ≠ 0xA5#8 → read = .frameError .sync (byteAt b 1) (byteAt b 2)) ∧
     (edges = 256 → byteAt b 0 = 0xA5#8 → crc16 (b.take 30) ≠ wordAt b 30 →
       read = .frameError .crc (byteAt b 1) (byteAt b 2)) ∧
     (edges = 256 → byteAt b 0 = 0xA5#8 → crc16 (b.take 30) = wordAt b 30 → namesRequest (byteAt b 2) = false →
       read = .unknownRequest (byteAt b 1) (byteAt b 2))) ∧
  (∀ (i : Instr) (h : Header) (code : Byte) (s : State), requestOf i = some (h, code) → s.takesNothing = false →
     h.len.toNat ∉ allowedLengths code → exec i s = .next (s.receiveFrame.answer h code .badLength [])) ∧
  (∀ x : Response, x.payload.length ≤ 25 →
     let status : Byte := match x.status with
       | .ok => 0x00#8 | .okClamped => 0x01#8 | .accepted => 0x02#8 | .frameError => 0x10#8 | .unknownRequest => 0x11#8
       | .badLength => 0x12#8 | .range => 0x20#8 | .state => 0x21#8 | .busy => 0x22#8 | .noSuch => 0x23#8
       | .notConfigured => 0x24#8 | .notReferenced => 0x25#8 | .portNotEnabled => 0x26#8 | .tripActive => 0x27#8
       | .walkActive => 0x28#8 | .stagedLocked => 0x29#8 | .commitInvalid => 0x2A#8 | .alarmLive => 0x2B#8 | .planFull => 0x2C#8
       | .legActive => 0x2D#8 | .precondition => 0x2E#8
     let body := [0x5A#8, x.tag, x.code, status, BitVec.ofNat 8 x.payload.length] ++ x.payload ++
       List.replicate (25 - x.payload.length) 0#8
     x.bytes = body ++ [BitVec.ofNat 8 ((crc16 body).toNat / 256), BitVec.ofNat 8 (crc16 body).toNat]) ∧
  (crc16 [] = 0xFFFF#16 ∧ ∀ (l : List Byte) (b : Byte),
     let shift (c : Word16) : Word16 := if c.msb then (c <<< 1) ^^^ 0x1021#16 else c <<< 1
     crc16 (l ++ [b]) = (List.replicate 8 shift).foldl (fun c f => f c) (crc16 l ^^^ (b.setWidth 16 <<< 8)))

/-- Decode and encode agree: the 32 bytes of every well-formed request, and of every good frame that names none, received
whole, are read as that command with every argument, a RESET with the lines as they stand then. -/
def Obligations.DecodeOfEncodeIsTheRequest : Prop :=
  ∀ (i : Instr) (f : List Byte) (resetN : Bool) (lines : ResetLines), i.wellFormed = true → encodeRequest i = some f →
    (∀ r, i = .reset r → r.resetN = resetN ∧ r.lines = lines) → decodeTransaction resetN lines 256 f = i

/-! ## Resets (R184, R185, R190) -/

/-- POWER_ON always, a RESET_N low of 10 µs or more outside a reset, and a taken RESET request of length 0 begin a reset with
their cause; a shorter RESET_N low is ignored, and one during a reset keeps its cause. A RESET request's reset ends at once,
with RESET_N high; a RESET_END ends the reset in progress where RESET_N is high; RESET_N low extends either reset (R184). The
end of a reset leaves the cause, RESET_DONE set, no flag masked and ATTN high, the timers started, the cam referenced where
PARK is active, a port whose presence line is active ATTACHED with PORT_CHANGE set, the reset response in the buffer, and
every block else as after the reset (R13, R127, R185, R190). The model's choice (assumption log 6, DESIGN CHOICE): the reset
of a POWER_ON and of a RESET_N low lasts until a RESET_END reads RESET_N high, between the two the state is that of
resetBegun, a POWER_ON in a reset begins again with cause POWER, and with no reset in progress a RESET_END does nothing. A
transaction in progress at the beginning of a reset stays in progress and is not taken (R187, log 7), which the end of the
reset leaves so; that it sends zeros from the beginning on (log 29), and that a reset leaves no inclinometer frame in progress
(log 30), are the model's choices. -/
def Obligations.ResetsBeginAndEnd : Prop :=
  ((∀ s : State, ∃ t, exec .powerOn s = .next t ∧ s.resetBegun t .power) ∧
   (∀ (s : State) (micros : Nat), 10 ≤ micros → s.inReset = false →
     ∃ t, exec (.resetNLow micros) s = .next t ∧ s.resetBegun t .pin) ∧
   (∀ (s : State) (micros : Nat), micros < 10 ∨ s.inReset = true → exec (.resetNLow micros) s = .next s) ∧
   (∀ (s : State) (r : ResetRequest), s.takesFrame r.header 0 →
     let u : State := { s with rport := { s.rport with selectLow := false, untaken := false } }
     ∃ t, exec (.reset r) s = .next t ∧ t.rport.sending = List.replicate 32 0#8 ∧
       (r.resetN = true → u.resetEnded t .request r.lines) ∧ (r.resetN = false → u.resetBegun t .request))) ∧
  (∀ (s : State) (lines : ResetLines),
     (∀ n, s.resetting = none → exec (.resetEnd n lines) s = .next s) ∧
     (∀ cause, s.resetting = some cause → exec (.resetEnd false lines) s = .next s ∧
       ∃ t, exec (.resetEnd true lines) s = .next t ∧ t.rport.sending = s.rport.sending ∧ s.resetEnded t cause lines))

/-! ## Requests that read, the settings, the flags and the snapshot (chapters 11 and 12) -/

/-- NOP, STATUS, GET, SNAPSHOT_READ, PORT_GET, CONFIG_GET, SECTOR_AT, PLAN_GET, DEFINITION_GET and ALARM_GET answer what they
read, and change nothing but the response and the watchdog (R32, R53, R102, R140, R147, R173, R194 to R196). The payloads are
given byte by byte by the codes of 12.4 and the layouts of 12.7 (STATUS and NOP), 12.8 (ALARM_GET) and 12.12 (the others): a
16-bit or 32-bit field most significant byte first, signed ones in two's complement, a row of marks with the first in bit 0, an
absent field as 0 with its presence mark clear (R197). A pending commit's time left and a shelve time are whole seconds and
minutes, rounded up (R66, R157). The NOGO window of SECTOR_AT is the lowest-numbered that covers the angle, its offset the angle
AND the complement of the governing window's mask (R32). NO_SUCH answers a setting, part, port, code, record, bank, item or index
that is none, and RANGE an angle above 4095 in a bank that is one and a plan position above 7. That the last outcome is absent
while the first commit since reset is pending is the model's choice (assumption log 28). -/
def Obligations.ReadRequestsOnlyRead : Prop :=
  ∀ (s : State) (h : Header), let r := s.receiveFrame
    let byte (n : Nat) : Byte := BitVec.ofNat 8 n
    let field (n : Nat) : List Byte := [byte (n / 256), byte n]
    let signed (v : Int) : List Byte := [BitVec.ofInt 8 (v / 256), BitVec.ofInt 8 v]
    let marks (l : List Bool) : Byte := byte (l.foldr (fun x n => (if x then 1 else 0) + 2 * n) 0)
    let scope (x : PerMotion Bool) : Byte := marks [x.hoist, x.drag, x.swing, x.walk]
    let channel (c : Channel) : Byte := match c.state with
      | .closed => 0#8 | .opening => 1#8 | .running => 2#8 | .parking => 3#8 | .parked => 4#8 | .closing => 5#8
    let walk : Byte := match r.walk.state with
      | .idle => 0#8 | .opening => 1#8 | .stepping => 2#8 | .halting => 3#8 | .stopped => 4#8 | .maint => 5#8 | .closing => 6#8
    let cause (x : Option HaltCause) : Byte := match x with
      | none => 0#8 | some .close => 1#8 | some .trip => 2#8 | some .port => 3#8 | some .openFailed => 4#8
      | some .unreferenced => 5#8 | some .halt => 6#8 | some .paused => 7#8 | some .planDone => 8#8 | some .precondition => 9#8
    let port (m : Motion) : Nat := match (r.ports.get m).state with
      | .detached => 0 | .attached => 1 | .resetting => 2 | .enabled => 3 | .disabled => 4
    let cls (x : AlarmClass) : Byte := match x with
      | .note => 0#8 | .derate => 1#8 | .hold => 2#8 | .stop => 3#8
    let records (x : RecordState) : Byte :=
      byte ((r.table.overflow.toList ++ r.table.records).filter fun y => decide (y.state = x)).length
    let status (pendingMark : Bool) : List Byte :=
      [match r.sup.operating with | .start => 0#8 | .ready => 1#8 | .tripped => 2#8,
        match r.sup.cause with | .power => 1#8 | .pin => 2#8 | .request => 3#8] ++
      field r.banks.generation ++ [marks [r.banks.commit.isSome, r.holdAll, r.holdEffective, pendingMark]] ++
      [channel r.channels.hoist, channel r.channels.drag, channel r.channels.swing, walk] ++
      [cause r.channels.hoist.lastCause, cause r.channels.drag.lastCause, cause r.channels.swing.lastCause,
        cause r.walk.lastCause] ++
      [byte (16 * port .hoist + port .drag), byte (16 * port .swing + port .walk)] ++ field r.rport.flags.toNat ++
      [records .activeUnack, records .activeAck, records .clearedUnack, records .shelved]
    let record (c : Code) (y : AlarmRecord) : List Byte :=
      [byte c.num, match y.state with
          | .activeUnack => 0#8 | .activeAck => 1#8 | .clearedUnack => 2#8 | .shelved => 3#8,
        cls y.cls, scope y.scope, marks [y.cap.isSome, y.value.isSome, y.shelve.isSome]] ++ field (y.cap.getD 0) ++
      [byte (y.seq / 16777216), byte (y.seq / 65536), byte (y.seq / 256), byte y.seq, byte y.recurrence] ++
      signed (y.value.getD 0) ++ [match y.shelve with | none => 0#8 | some t => byte ((t.left + 59999) / 60000)]
    let definition (c : Code) (d : Definition) : List Byte :=
      [byte c.num, cls d.cls, cls d.floor, scope d.scope, byte d.persistence] ++ field d.cap ++
      [match d.polarity with | some .activeLow => 1#8 | _ => 0#8, marks [d.active, d.pendingMark], byte d.run] ++
      signed (d.raiseValue.getD 0) ++ [marks [d.polarity.isSome, d.raiseValue.isSome]]
    let portBytes (m : Motion) : List Byte := let p := r.ports.get m
      [match m with | .hoist => 0#8 | .drag => 1#8 | .swing => 2#8 | .walk => 3#8, byte (port m),
        marks [p.lastCause.isSome, p.lastStatus.isSome],
        match p.lastCause with
          | none => 0#8 | some .presenceOn => 1#8 | some .presenceOff => 2#8 | some .resetRequest => 3#8 | some .resetOk => 4#8
          | some .resetFailed => 5#8 | some .misses => 6#8 | some .fault => 7#8 | some .disableRequest => 8#8,
        p.sequence, byte p.misses,
        match p.lastStatus with
          | none => 0#8 | some x => marks [x.ready, x.fault, x.atRest, x.brakeSet, x.brakeOpen],
        marks [decide (p.watch.command = .release), p.watch.confirmed, p.watch.inBreach], byte (r.cfg (.linkPeriod m))]
    let snapshot (part : Nat) : Option (List Byte) := let x := r.rport.snapshot
      let view (v : ChannelView) : List Byte := [byte v.state] ++ signed v.demand ++ signed v.permitted ++ signed v.reference
      match part with
      | 0 => some (field x.generation ++ field x.h ++ field x.d ++ field x.swingAngle ++ field x.camAngle ++ signed x.pitch ++
          signed x.roll ++
          [marks [x.stale, x.referenced.hoist, x.referenced.drag, x.referenced.swing, x.referenced.walk]])
      | 1 => some (view x.channels.hoist ++ view x.channels.drag)
      | 2 => some (view x.channels.swing ++ view x.channels.walk)
      | 3 => some ([byte x.sector] ++ signed x.hoistOut ++ signed x.hoistIn ++ signed x.dragOut ++ signed x.dragIn ++
          field x.clockwise ++ field x.counterClockwise)
      | _ => none
    let point (p : Point) : List Byte := field p.x ++ field p.y
    let item (bank : Bank) (item index first : Nat) : Option (List Byte) := match item with
      | 0 => (bank.windows[index]?).map fun w =>
        [byte index, marks [w.enable, w.nogo, w.walk]] ++ field w.base.toNat ++ field w.mask.toNat ++ [byte w.sector]
      | 1 => (bank.sectors[index]?).map fun x =>
        [byte index, byte x.ceiling, byte x.floor] ++ field x.dmin ++ field x.dmax ++ field x.hoistCap ++ field x.dragCap ++
          field x.swingCap
      | 2 => (bank.curves[index]?).map fun c =>
        [byte index, byte c.count, marks [decide (1 ≤ c.count)]] ++ (if 1 ≤ c.count then point c.slots[0] else [0, 0, 0, 0])
      | 3 => if 15 < first then none else (bank.curves[index]?).map fun c =>
        [byte index, byte first] ++ ((c.slots.toList.drop first).take 5).flatMap point
      | 4 => some [byte bank.brake]
      | 5 =>
        some ((match r.banks.commit with
            | none => [0#8, marks [false, r.banks.outcome.isSome], 0#8, 0#8]
            | some p => [1#8, marks [true, r.banks.outcome.isSome], byte ((p.timer.left + 999) / 1000),
              match p.lastTest with | .holding => 0#8 | .nogo => 1#8 | .envelope => 2#8 | .legWindow => 3#8]) ++
          (match r.banks.outcome with
            | none => [0#8, 0#8, 0#8]
            | some (.done generation) => [0#8] ++ field generation
            | some (.refused detail place) =>
              [1#8, match detail with
                | .windowAlign => 1#8 | .curveUnset => 2#8 | .curveOrder => 3#8 | .sectorRange => 4#8 | .curvesCross => 5#8,
                byte place]
            | some .cancelled => [2#8, 0#8, 0#8]
            | some .abandoned => [3#8, 0#8, 0#8]))
      | _ => none
    let bankAt (x : Byte) (bank : Bank) : Prop :=
      (x = 0#8 ∧ bank = r.banks.staged) ∨ (x = 1#8 ∧ bank = r.banks.active)
    (s.takesFrame h 0 → ∀ pendingMark : Bool, (pendingMark = true ↔ ∃ c, (r.definition c).pendingMark = true) →
      exec (.nop h) s = .next (r.answer h 0x01#8 .ok (status pendingMark)) ∧
      exec (.status h) s = .next (r.answer h 0x02#8 .ok (status pendingMark))) ∧
    (s.takesFrame h 1 → ∀ x : Byte,
      exec (.get h x) s = .next (r.answerRead h 0x05#8 ((Setting.ofId x.toNat).map fun k => [x] ++ field (r.cfg k))) ∧
      exec (.snapshotRead h x) s =
        .next (r.answerRead h 0x09#8 ((snapshot x.toNat).map fun y => [x] ++ field r.rport.snapshot.capture ++ y)) ∧
      exec (.portGet h x) s =
        .next (r.answerRead h 0x1A#8 (match x.toNat with
          | 0 => some (portBytes .hoist) | 1 => some (portBytes .drag) | 2 => some (portBytes .swing)
          | 3 => some (portBytes .walk) | _ => none)) ∧
      (∀ c : Code, c.num = x.toNat →
        exec (.definitionGet h x) s = .next (r.answer h 0x41#8 .ok (definition c (r.definition c))) ∧
        (r.table.find c = none → exec (.alarmGet h x) s = .next (r.answer h 0x4B#8 .noSuch [])) ∧
        (∀ y, r.table.find c = some y → exec (.alarmGet h x) s = .next (r.answer h 0x4B#8 .ok (record y.code y)))) ∧
      ((∀ c : Code, c.num ≠ x.toNat) →
        exec (.definitionGet h x) s = .next (r.answer h 0x41#8 .noSuch []) ∧
        exec (.alarmGet h x) s = .next (r.answer h 0x4B#8 .noSuch [])) ∧
      exec (.planGet h x) s =
        .next
          (if 7 < x.toNat then r.answer h 0x33#8 .range []
          else r.answer h 0x33#8 .ok ([byte r.plan.length] ++ ((r.plan.drop x.toNat).take 4).flatMap fun l =>
            [byte l.id, byte l.window, byte l.steps, byte l.stepsDone] ++ field l.speed))) ∧
    (s.takesFrame h 4 → ∀ x kind index first : Byte,
      let done := exec (.configGet h x kind index first) s
      (1 < x.toNat → done = .next (r.answer h 0x29#8 .noSuch [])) ∧
      (∀ bank, bankAt x bank → done = .next (r.answerRead h 0x29#8
        ((item bank kind.toNat index.toNat first.toNat).map fun y => [x] ++ field r.banks.generation ++ y)))) ∧
    (s.takesFrame h 3 → ∀ (w : Word16) (x : Byte),
      let done := exec (.sectorAt h w x) s
      (1 < x.toNat → done = .next (r.answer h 0x2A#8 .noSuch [])) ∧
      (∀ bank, bankAt x bank → 4095 < w.toNat → done = .next (r.answer h 0x2A#8 .range [])) ∧
      (∀ (bank : Bank) (a : Angle) (nogo : Option (Fin 16)), bankAt x bank → a.toNat = w.toNat →
        (∀ i : Fin 16, nogo = some i ↔ (bank.windows[i].covers a = true ∧ bank.windows[i].nogo = true ∧
          ∀ j : Fin 16, j.val < i.val → ¬(bank.windows[j].covers a = true ∧ bank.windows[j].nogo = true))) →
        let governing := bank.governing a
        done = .next (r.answer h 0x2A#8 .ok ([x] ++ field r.banks.generation ++
          [marks [governing.isSome, nogo.isSome, governing.isSome],
            match governing with | none => 0#8 | some i => byte i, byte (bank.governingSector a),
            marks [nogo.isSome, bank.walkAllowed a], match nogo with | none => 0#8 | some i => byte i] ++
          (match governing with | none => [0#8, 0#8] | some i => field (a &&& ~~~bank.windows[i].mask).toNat)))))

/-- SET writes the setting its id names, clamped to its range, and no other; it is refused with NO_SUCH for an unknown id and
with STATE for a scale, SWING_CPT or SWING_INDEX_ANGLE whose channel is not CLOSED; a taken write of one of those removes the
axis's reference (R6, R10, R17, R195). The owner's write changes nothing but that setting and, in the Axis Sensing Unit, that
reference mark with the swing counts reduced for SWING_CPT, the three sample timers for AXIS_PERIOD, and for CAM_FILTER the
value before it, kept for pulses begun before (R1, R11; log 18); then the channels re-form their hold sources where a
reference was removed, and else nothing more happens. That they do so in the order hoist, drag, swing is the model's choice:
R6, R10 and R80 give none (assumption log 24, DESIGN CHOICE). -/
def Obligations.SetWritesThatSettingAlone : Prop :=
  ∀ (s : State) (h : Header) (id : Byte) (value : Word16), s.takesFrame h 3 →
    let r := s.receiveFrame
    (Setting.ofId id.toNat = none → exec (.set h id value) s = .next (r.answer h 0x04#8 .noSuch [])) ∧
    ∀ k, Setting.ofId id.toNat = some k →
      let closed (c : Channel) : Prop := c.state = .closed
      let taken : Prop := (k = .hoistScale → closed r.channels.hoist) ∧ (k = .dragScale → closed r.channels.drag) ∧
        (k = .swingCpt ∨ k = .swingIndexAngle → closed r.channels.swing)
      let v := clampNat k.row.lo k.row.hi value.toNat
      let unreferences : Prop := k = .hoistScale ∨ k = .dragScale ∨ k = .swingCpt ∨ k = .swingIndexAngle
      let owner (u : State) : Prop := u = { r with settings := u.settings, asu := u.asu } ∧
        u.cfg k = v ∧ (∀ j, j ≠ k → u.cfg j = s.cfg j) ∧
        (k = .hoistScale → u.asu = { r.asu with hoist := { r.asu.hoist with referenced := false } }) ∧
        (k = .dragScale → u.asu = { r.asu with drag := { r.asu.drag with referenced := false } }) ∧
        (k = .swingIndexAngle → u.asu = { r.asu with swing := { r.asu.swing with referenced := false } }) ∧
        (k = .swingCpt → u.asu = { r.asu with swing := { r.asu.swing with
          count := r.asu.swing.count % v, indexCount := r.asu.swing.indexCount % v, referenced := false } }) ∧
        (k = .axisPeriod → u.asu = { r.asu with sampleTimers := ⟨some ⟨v, v⟩, some ⟨v, v⟩, some ⟨v, v⟩⟩ }) ∧
        (k = .camFilter → u.asu = { r.asu with oldFilters := s.cfg .camFilter :: r.asu.oldFilters }) ∧
        (¬unreferences → k ≠ .axisPeriod → k ≠ .camFilter → u.asu = r.asu)
      (¬taken → exec (.set h id value) s = .next (r.answer h 0x04#8 .state [])) ∧
      (taken → ∃ u, owner u ∧
        let status : Status := if v = value.toNat then .ok else .okClamped
        (¬unreferences → exec (.set h id value) s = .next (u.answer h 0x04#8 status ([id] ++ nat16 v))) ∧
        (unreferences → exec (.set h id value) s =
          .next ((settle (u, [.reformChannel .hoist, .reformChannel .drag, .reformChannel .swing])).answer h 0x04#8 status
            ([id] ++ nat16 v)))) ∧
      (taken → ∃ t, exec (.set h id value) s = .next t ∧ t.cfg k = v ∧ (∀ j, j ≠ k → t.cfg j = s.cfg j) ∧
        t.rport.buffer = ⟨h.tag, 0x04#8, if v = value.toNat then .ok else .okClamped, [id] ++ nat16 v⟩ ∧
        (k = .hoistScale → t.asu.hoist = { r.asu.hoist with referenced := false }) ∧
        (k = .dragScale → t.asu.drag = { r.asu.drag with referenced := false }) ∧
        (k = .swingIndexAngle → t.asu.swing = { r.asu.swing with referenced := false }) ∧
        (k = .swingCpt → t.asu.swing = { r.asu.swing with
          count := r.asu.swing.count % v, indexCount := r.asu.swing.indexCount % v, referenced := false }) ∧
        (k = .axisPeriod → t.asu.sampleTimers = ⟨some ⟨v, v⟩, some ⟨v, v⟩, some ⟨v, v⟩⟩))

/-- EVENTS_ACK clears the flags named and leaves the others, EVENTS_MASK replaces the whole mask; ATTN follows in the same
event, and nothing else changes (R191, R192). SNAPSHOT replaces the record with positions, channel values, margins and
blocking distances as they stand, under the next capture number, wrapping from 65535 to 1, and sets SNAPSHOT_TAKEN (R193). -/
def Obligations.FlagsAndSnapshot : Prop :=
  (∀ (s : State) (h : Header) (w : Word16), s.takesFrame h 2 →
     let r := s.receiveFrame
     let level (flags mask : Word16) : Bool := decide (flags &&& ~~~mask ≠ 0#16)
     exec (.eventsAck h w) s =
       .next
         (({ r with
             rport := { r.rport with flags := r.rport.flags &&& ~~~w }
             pins := { r.pins with attn := level (r.rport.flags &&& ~~~w) r.rport.mask } } : State).answer h 0x06#8 .ok
           (bytes16 r.rport.flags ++ bytes16 (r.rport.flags &&& ~~~w))) ∧
     exec (.eventsMask h w) s =
       .next
         (({ r with
             rport := { r.rport with mask := w }
             pins := { r.pins with attn := level r.rport.flags w } } : State).answer h 0x07#8 .ok
           (bytes16 w ++ bytes16 r.rport.flags))) ∧
  (∀ (s : State) (h : Header), s.takesFrame h 0 →
     let r := s.receiveFrame
     let n := if 65535 ≤ r.rport.snapshot.capture then 1 else r.rport.snapshot.capture + 1
     let of (c : Channel) : ChannelView := ⟨c.state.code, c.demand, c.permitted, c.reference⟩
    ∃ x : Snapshot,
      exec (.snapshot h) s =
        .next ((({ r with rport := { r.rport with snapshot := x } } : State).setFlag .snapshotTaken).answer h 0x08#8 .ok
          (nat16 n)) ∧
      x.capture = n ∧ x.generation = r.banks.generation ∧ x.h = r.payoutH ∧ x.d = r.payoutD ∧
      x.swingAngle = r.angle.toNat ∧ x.camAngle = r.asu.teeth.toNat * 64 ∧ x.pitch = r.asu.pitch ∧ x.roll = r.asu.roll ∧
      x.stale = r.asu.stale ∧
      x.referenced =
        ⟨r.asu.hoist.referenced, r.asu.drag.referenced, r.asu.swing.referenced, r.asu.camReferenced⟩ ∧
      x.channels =
        ⟨of r.channels.hoist, of r.channels.drag, of r.channels.swing,
          ⟨r.walk.state.code, r.walk.demand, r.walk.permitted, r.walk.reference⟩⟩ ∧
      x.sector = (r.banks.active.governingSector r.angle).val ∧
      x.hoistOut = r.hoistMargins.pos ∧ x.hoistIn = r.hoistMargins.neg ∧
      x.dragOut = r.dragMargins.pos ∧ x.dragIn = r.dragMargins.neg ∧
      x.clockwise = (r.banks.active.distanceClockwise r.angle r.payoutD r.payoutH).getD 4096 ∧
      x.counterClockwise = (r.banks.active.distanceCounter r.angle r.payoutD r.payoutH).getD 4096)

/-! ## Requests that move or hold the machine (chapters 5, 6 and 10) -/

/-- DEMAND: each value clamped to ±1000; an open hoist, drag or swing channel stores its own, clears its expired mark (a mark
that was set delivers DEMAND_LOST_x false) and restarts its demand timer; the walk stores its own in MAINT and on the way there
only; another channel is left alone (R75, R121). -/
def Obligations.DemandIsStored : Prop :=
  ∀ (s : State) (h : Header) (hd dd sd wd : Word16), s.takesFrame h 8 →
    let r := s.receiveFrame
    let v (w : Word16) : Int := if w.toInt < -1000 then -1000 else if 1000 < w.toInt then 1000 else w.toInt
    let timer : Timer := ⟨r.cfg .demandTimeout, r.cfg .demandTimeout⟩
    let isOpen (c : Channel) : Prop :=
      c.state = .opening ∨ c.state = .running ∨ c.state = .parking ∨ c.state = .parked
    let next (c : Channel) (w : Word16) (c' : Channel) : Prop :=
      (isOpen c → c' = { c with demand := v w, expired := false, demandTimer := some timer }) ∧ (¬isOpen c → c' = c)
    ∃ u acts, exec (.demand h hd dd sd wd) s =
        .next ((settle (u, acts)).answer h 0x10#8
          (if v hd = hd.toInt ∧ v dd = dd.toInt ∧ v sd = sd.toInt ∧ v wd = wd.toInt then .ok else .okClamped)
          (int16 (v hd) ++ int16 (v dd) ++ int16 (v sd) ++ int16 (v wd))) ∧
      u = { r with channels := u.channels, walk := u.walk } ∧
      next r.channels.hoist hd u.channels.hoist ∧ next r.channels.drag dd u.channels.drag ∧
      next r.channels.swing sd u.channels.swing ∧
      (r.walk.state = .maint ∨ (r.walk.state = .opening ∧ r.walk.target = some .maint) →
        u.walk = { r.walk with demand := v wd, demandTimer := some timer }) ∧
      (¬(r.walk.state = .maint ∨ (r.walk.state = .opening ∧ r.walk.target = some .maint)) → u.walk = r.walk) ∧
      (∀ x, x ∈ acts ↔ ∃ a, x = .sample (.demandLost a) false none ∧ (r.channels.get a).expired = true ∧
        isOpen (r.channels.get a))

/-- OPEN of a rope or swing channel: the first failing check refuses it; otherwise it is ACCEPTED with demand 0 and its demand
timer started, and the channel enters OPENING with brake OPEN, or PARKED with brake SET where a hold source is present (R71,
R72, R73); a channel or mode that is none is NO_SUCH. OPEN(WALK): FOLLOW is NO_SUCH; MAINT is refused by the first failing
check of R120, and otherwise ACCEPTED: demand 0, the demand timer started, OPENING with target MAINT and no run. -/
def Obligations.OpenByItsChecks : Prop :=
  (∀ (s : State) (h : Header), s.takesFrame h 2 →
     let r := s.receiveFrame
     (∀ channel mode : Byte, 3 < channel.toNat ∨ 1 < mode.toNat →
       exec (.openChannel h channel mode) s = .next (r.answer h 0x11#8 .noSuch [])) ∧
     ∀ (a : Axis) (mode : Mode),
       let request := Instr.openChannel h (match a with | .hoist => 0#8 | .drag => 1#8 | .swing => 2#8)
         (match mode with | .follow => 0#8 | .maint => 1#8)
       let c := { r.channels.get a with
         mode := mode, demand := 0, expired := false
         demandTimer := some ⟨r.cfg .demandTimeout, r.cfg .demandTimeout⟩ }
       let holds : Holds :=
         ⟨r.holdAll, c.alarmHold, r.walk.state == .stepping || r.walk.state == .halting || r.walk.state == .stopped,
           mode == .follow && !(r.asu.hoist.referenced && r.asu.drag.referenced && r.asu.swing.referenced)⟩
       match r.openChecks a mode with
       | some x => exec request s = .next (r.answer h 0x11#8 x [])
       | none =>
         if holds = ⟨false, false, false, false⟩ then
           exec request s =
             .next ((settle (r.setChannel a
               { c with
                 holds := holds, state := .opening, enable := true, brake := .release, reference := 0, permitted := 0
                 openTimer := some ⟨r.cfg .brakeTimeout, r.cfg .brakeTimeout⟩ },
               [.channelChanged a])).answer h 0x11#8 .accepted [])
         else
           exec request s =
             .next ((settle (r.setChannel a
               { c with holds := holds, state := .parked, enable := false, brake := .apply, reference := 0 },
               [.channelChanged a])).answer h 0x11#8 .accepted [])) ∧
  (∀ (s : State) (h : Header), s.takesFrame h 2 →
     let r := s.receiveFrame
     exec (.openChannel h 3#8 0#8) s = .next (r.answer h 0x11#8 .noSuch []) ∧
     match firstRefusal
       [(r.sup.operating == .start, .notConfigured), (r.sup.operating == .tripped, .tripActive),
         (r.walk.state == .closing, .busy), (r.walk.state != .idle, .state),
         (r.ports.walk.state != .enabled, .portNotEnabled), (r.walk.halts.holdAll || r.walk.halts.alarm, .state)] with
     | some x => exec (.openChannel h 3#8 1#8) s = .next (r.answer h 0x11#8 x [])
     | none =>
       exec (.openChannel h 3#8 1#8) s =
         .next ((settle (r.setWalk
           { r.walk with
             demand := 0, demandTimer := some ⟨r.cfg .demandTimeout, r.cfg .demandTimeout⟩, state := .opening
             target := some .maint, run := none, enable := true, brake := .release, reference := 0, permitted := 0
             openTimer := some ⟨r.cfg .brakeTimeout, r.cfg .brakeTimeout⟩ },
           [.walkChanged])).answer h 0x11#8 .accepted []))

/-- CLOSE of a rope or swing channel by its state: OPENING, RUNNING and PARKING go to CLOSING (ACCEPTED), PARKED closes at
once (OK), CLOSING and CLOSED change nothing (OK); a channel that is none is NO_SUCH (R85, R87). WALK_HALT (cause HALT) and
CLOSE(WALK) (cause CLOSE) in OPENING, STEPPING and MAINT halt the walk by its target or its cam phase and answer ACCEPTED; in
STOPPED, CLOSE(WALK) enters IDLE at park and is else refused with STATE; in the other states both answer OK and change nothing
(R108, R112, R114). That CLOSE(WALK) in STOPPED at park answers OK, which R114 does not say, is assumption log 10 (DEDUCED).
The model's choice: the DEMAND_LOST sample of a closing acts before the change of state is handed on (assumption log 27). That
a halted opening of the walk stops its open timer is the model's choice too (log 34). -/
def Obligations.CloseAndHaltByState : Prop :=
  (∀ (s : State) (h : Header), s.takesFrame h 1 →
     let r := s.receiveFrame
     (∀ channel : Byte, 3 < channel.toNat → exec (.closeChannel h channel) s = .next (r.answer h 0x12#8 .noSuch [])) ∧
     ∀ a : Axis,
       let request := Instr.closeChannel h (match a with | .hoist => 0#8 | .drag => 1#8 | .swing => 2#8)
       let c := r.channels.get a
       let rest : Option Timer :=
         if c.state = .parking then c.restTimer
         else if c.reference = 0 then some ⟨r.cfg .brakeTimeout, r.cfg .brakeTimeout⟩ else none
       let closing :=
         { c with
           state := .closing, permitted := 0, demand := 0, expired := false, demandTimer := none, openTimer := none
           restTimer := rest }
       let closed :=
         { c with
           state := .closed, reference := 0, permitted := 0, enable := false, brake := .apply, demand := 0
           expired := false, demandTimer := none, openTimer := none, restTimer := none, lastCause := some .close }
       (c.state = .opening ∨ c.state = .running ∨ c.state = .parking →
         exec request s =
           .next ((settle (r.setChannel a closing, [.channelChanged a])).answer h 0x12#8 .accepted [])) ∧
       (c.state = .parked →
         exec request s =
           .next ((settle ((r.setChannel a closed).setFlag (.halted a.motion),
             [.sample (.demandLost a) false none, .channelChanged a])).answer h 0x12#8 .ok [])) ∧
       (c.state = .closing ∨ c.state = .closed → exec request s = .next (r.answer h 0x12#8 .ok []))) ∧
  (∀ (s : State) (h : Header),
     let r := s.receiveFrame
     let halts : Prop := r.walk.state = .opening ∨ r.walk.state = .stepping ∨ r.walk.state = .maint
     (s.takesFrame h 0 →
       (halts → exec (.walkHalt h) s = .next ((settle (r.haltOutcome .halt)).answer h 0x35#8 .accepted [])) ∧
       (¬halts → exec (.walkHalt h) s = .next (r.answer h 0x35#8 .ok []))) ∧
     (s.takesFrame h 1 →
       (halts → exec (.closeChannel h 3#8) s = .next ((settle (r.haltOutcome .close)).answer h 0x12#8 .accepted [])) ∧
       (r.walk.state = .stopped → r.asu.camReferenced = true → r.asu.teeth = 0#6 →
         exec (.closeChannel h 3#8) s =
           .next ((settle ((r.setWalk (r.walk.idledBy .close)).setFlag (.halted .walk), [.walkChanged])).answer h 0x12#8
             .ok [])) ∧
       (r.walk.state = .stopped → ¬(r.asu.camReferenced = true ∧ r.asu.teeth = 0#6) →
         exec (.closeChannel h 3#8) s = .next (r.answer h 0x12#8 .state [])) ∧
       (¬halts → r.walk.state ≠ .stopped → exec (.closeChannel h 3#8) s = .next (r.answer h 0x12#8 .ok []))))

/-- HOLD_ALL sets the HOLD_ALL flag and RELEASE_ALL clears it, in every state, with OK; a change is delivered to the three
channels, to the walk and to HOLD_EFFECTIVE, and without a change nothing else happens (R91, R92). A channel so reached forms
its hold sources anew: the flag, its ALARM hold, the walk in STEPPING, HALTING or STOPPED, and in FOLLOW an unreferenced axis
(R80). An OPENING or RUNNING channel whose set becomes not empty enters PARKING with reference, brake command and demand kept,
a PARKED channel whose set changes looks at it as R84 states, and in every other case the set is only recorded (R81). The walk
forms its halt sources anew and halts when they become not empty, by its state as WALK_HALT does (R108, R111, R112, R121).
HOLD_EFFECTIVE, where evaluated, is true with HOLD_ALL set, every channel CLOSED or PARKED and the walk IDLE, and sets its
flag only where it becomes true (R92). A change of a channel's state reaches the test of a pending commit, HOLD_EFFECTIVE and
MAINT_MOTION, sampled true with a channel open in MAINT or the walk in MAINT or on the way there (R93); a change of the walk's
state reaches these three and the channels, which re-form their hold sources (R122). The orders are the model's choice, as
R91, R93 and R122 list the receivers and give no order (assumption log 24, DESIGN CHOICE): at a change of HOLD_ALL the
channels hoist, drag, swing, then the walk, then HOLD_EFFECTIVE; at a change of a channel the commit test, HOLD_EFFECTIVE,
then MAINT_MOTION; and at a change of the walk the channels hoist, drag, swing before these three. -/
def Obligations.HoldAllSetsAndClears : Prop :=
  (∀ (s : State) (h : Header), s.takesFrame h 0 →
     let r := s.receiveFrame
     let acts : List Act :=
       [.reformChannel .hoist, .reformChannel .drag, .reformChannel .swing, .reformWalk, .holdEffective]
     (r.holdAll = false → exec (.holdAll h) s = .next ((settle ({ r with holdAll := true }, acts)).answer h 0x13#8 .ok [])) ∧
     (r.holdAll = true → exec (.holdAll h) s = .next (r.answer h 0x13#8 .ok [])) ∧
     (r.holdAll = true →
       exec (.releaseAll h) s = .next ((settle ({ r with holdAll := false }, acts)).answer h 0x14#8 .ok [])) ∧
     (r.holdAll = false → exec (.releaseAll h) s = .next (r.answer h 0x14#8 .ok []))) ∧
  (∀ (s : State) (a : Axis),
     let c := s.channels.get a
     let empty : Holds := ⟨false, false, false, false⟩
     let now : Holds :=
       ⟨s.holdAll, c.alarmHold, s.walk.state == .stepping || s.walk.state == .halting || s.walk.state == .stopped,
         c.mode == .follow && !(s.asu.hoist.referenced && s.asu.drag.referenced && s.asu.swing.referenced)⟩
     let u := s.setChannel a { c with holds := now }
     let done := settle (s, [.reformChannel a])
     let runs : Prop := c.state = .opening ∨ c.state = .running
     (runs → c.holds = empty → now ≠ empty →
       done = settle
         (s.setChannel a
           { c with
             holds := now, state := .parking, permitted := 0, openTimer := none
             restTimer := if c.reference = 0 then s.brakeStart else none }, [.channelChanged a])) ∧
     (runs → c.holds ≠ empty ∨ now = empty → done = u) ∧
     (c.state = .parked → now ≠ c.holds → done = settle (u, [.parkedLook a])) ∧
     (c.state = .parked → now = c.holds → done = u) ∧
     (c.state = .closed ∨ c.state = .parking ∨ c.state = .closing → done = u)) ∧
  (∀ s : State,
     let w := s.walk
     let now : Halts := ⟨s.holdAll, w.alarmHold⟩
     let u := s.setWalk { w with halts := now }
     let done := settle (s, [.reformWalk])
     (w.halts = ⟨false, false⟩ → now ≠ ⟨false, false⟩ → done = settle (u.haltOutcome .halt)) ∧
     (w.halts ≠ ⟨false, false⟩ ∨ now = ⟨false, false⟩ → done = u)) ∧
  (∀ s : State,
     let done := settle (s, [.holdEffective])
     let holds : Prop := s.holdAll = true ∧ s.walk.state = .idle ∧
       ∀ a, (s.channels.get a).state = .closed ∨ (s.channels.get a).state = .parked
     (holds → s.holdEffective = true → done = s) ∧
     (holds → s.holdEffective = false → done = ({ s with holdEffective := true } : State).setFlag .holdEffective) ∧
     (¬holds → done = { s with holdEffective := false })) ∧
  (∀ (s : State) (a : Axis) (raw : Bool),
     let openInMaint (c : Channel) : Prop := c.mode = .maint ∧
       (c.state = .opening ∨ c.state = .running ∨ c.state = .parking ∨ c.state = .parked)
     let done := settle (s, [.channelChanged a])
     (raw = true ↔ (∃ b, openInMaint (s.channels.get b)) ∨ s.walk.state = .maint ∨
       (s.walk.state = .opening ∧ s.walk.target = some .maint)) →
     let tested := settle (settle (s, [.commitTest]), [.holdEffective])
     done = settle (tested, [.sample .maintMotion raw none])) ∧
  (∀ (s : State) (a : Axis),
     let reformed := settle (s, [.reformChannel .hoist, .reformChannel .drag, .reformChannel .swing])
     settle (s, [.walkChanged]) = settle (reformed, [.channelChanged a]))

/-- REFERENCE by its checks: an axis that is no rope axis is NO_SUCH, a payout above 20000 RANGE, a channel not CLOSED or an
active encoder fault STATE; otherwise the present count and the payout become the reference point and the position, the axis
is referenced, the flag REFERENCED is set and every channel re-forms its hold sources (R5, R80). The model's choice: the
channels do so in the order hoist, drag, swing (assumption log 24). -/
def Obligations.ReferenceSetsThePoint : Prop :=
  ∀ (s : State) (h : Header) (payout : Word16), s.takesFrame h 3 →
    let r := s.receiveFrame
    (∀ axis : Byte, 1 < axis.toNat → exec (.reference h axis payout) s = .next (r.answer h 0x15#8 .noSuch [])) ∧
    ∀ q : Rope,
      let request := Instr.reference h (match q with | .hoist => 0#8 | .drag => 1#8) payout
      let x := r.rope q
      (20000 < payout.toNat → exec request s = .next (r.answer h 0x15#8 .range [])) ∧
      (payout.toNat ≤ 20000 →
        (r.channels.get q.axis).state ≠ .closed ∨ (r.definition (.encoderFault q.axis)).active = true →
        exec request s = .next (r.answer h 0x15#8 .state [])) ∧
      (payout.toNat ≤ 20000 → (r.channels.get q.axis).state = .closed →
        (r.definition (.encoderFault q.axis)).active = false →
        exec request s =
          .next ((settle
            ((r.setRope q
              { x with refCount := x.count, refPayout := payout.toNat, payout := payout.toNat, referenced := true }).setFlag
              .referenced,
            [.reformChannel .hoist, .reformChannel .drag, .reformChannel .swing])).answer h 0x15#8 .ok
            ([(match q with | .hoist => 0#8 | .drag => 1#8)] ++ nat16 payout.toNat ++ bytes32 x.count)))

/-- Trips, port losses and RESUME. A consequence set at the Supervisor records the trip demand; present in START or READY it
enters TRIPPED with SAFE_RUN low, trips every channel in order and sets TRIP (R180). The trip closes a channel not CLOSED with
cause TRIP and hands an ENABLED port one final frame, enable off, reference 0, brake SET; on the walk it leaves IDLE and
STOPPED alone, takes MAINT, an opening to MAINT, a CLOSING with origin OTHER and one at park to IDLE, every other to STOPPED,
with the final frame (R89, R116). The loss of its port closes a channel not CLOSED with cause PORT, and takes the walk from
every state but IDLE to IDLE with HALTED_W and WALK_STOPPED; no frame is sent (R88, R119). RESUME: in TRIPPED refused with
TRIP_ACTIVE while the trip demand last delivered is present, else READY with SAFE_RUN high, or START in generation 0; in START
and READY no change; it opens no channel and starts no walk (R181). The model's choice: the DEMAND_LOST sample of a closing
acts before the change of state is handed on (assumption log 27). -/
def Obligations.TripsLossesAndResume : Prop :=
  (∀ s : State,
     let demand := s.table.consequence.trip
     let u := { s with sup := { s.sup with tripDemand := demand } }
     let done := settle (s, [.receiveSupervisor])
     (demand = true → s.sup.operating ≠ .tripped →
       done = settle
         ({ u with sup := { u.sup with operating := .tripped }, pins := { s.pins with safeRun := false } },
           [.tripChannel .hoist, .tripChannel .drag, .tripChannel .swing, .tripWalk, .tripFlag])) ∧
     (demand = false ∨ s.sup.operating = .tripped → done = u) ∧ settle (s, [.tripFlag]) = s.setFlag .trip) ∧
  (∀ (s : State) (m : Motion),
     let q := s.ports.get m
     let final (u : State) : State :=
       if q.state = .enabled then
         u.setPort m
           { q with
             sequence := q.sequence + 1#8, outstanding := some ⟨q.sequence + 1#8, false⟩
             sent := some ⟨.reference, q.sequence + 1#8, 0, false, .apply⟩
             watch := q.watch.sent .apply ⟨s.cfg .brakeTimeout, s.cfg .brakeTimeout⟩ }
       else u
     (∀ a : Axis, a.motion = m →
       let c := s.channels.get a
       let closed (cause : HaltCause) : State := (s.setChannel a (c.closedBy cause)).setFlag (.halted m)
       let acts : List Act := [.sample (.demandLost a) false none, .channelChanged a]
       (c.state = .closed → settle (s, [.tripChannel a]) = s ∧ settle (s, [.portLost m]) = s) ∧
       (c.state ≠ .closed →
         settle (s, [.tripChannel a]) = settle (final (closed .trip), acts) ∧
         settle (s, [.portLost m]) = settle (closed .port, acts))) ∧
     (m = .walk →
       let w := s.walk
       let idle (cause : HaltCause) : State := (s.setWalk (w.idledBy cause)).setFlag (.halted .walk)
       let stopped : State := (s.setWalk (w.stoppedBy .trip)).setFlag .walkStopped
       let done := settle (s, [.tripWalk])
       let toIdle : Prop := w.state = .maint ∨ (w.state = .opening ∧ w.target = some .maint) ∨
         (w.state = .closing ∧ ((∃ cause, w.closing = some ⟨.other, cause⟩) ∨
           ((∃ cause, w.closing = some ⟨.park, cause⟩) ∧ s.asu.camReferenced = true ∧ s.asu.teeth = 0#6)))
       let toStopped : Prop := w.state = .stepping ∨ w.state = .halting ∨ (w.state = .opening ∧ w.target ≠ some .maint) ∨
         (w.state = .closing ∧ (∃ cause, w.closing = some ⟨.park, cause⟩) ∧ ¬(s.asu.camReferenced = true ∧ s.asu.teeth = 0#6))
       (w.state = .idle ∨ w.state = .stopped → done = s) ∧ (toIdle → done = settle (final (idle .trip), [.walkChanged])) ∧
       (toStopped → done = settle (final stopped, [.walkChanged])) ∧ (w.state = .idle → settle (s, [.portLost .walk]) = s) ∧
       (w.state ≠ .idle → settle (s, [.portLost .walk]) = settle ((idle .port).setFlag .walkStopped, [.walkChanged])))) ∧
  (∀ (s : State) (h : Header), s.takesFrame h 0 →
     let r := s.receiveFrame
     (r.sup.operating = .tripped → r.sup.tripDemand = true → exec (.resume h) s = .next (r.answer h 0x16#8 .tripActive [])) ∧
     (r.sup.operating = .tripped → r.sup.tripDemand = false → r.banks.generation ≠ 0 →
       exec (.resume h) s =
         .next (({ r with
           sup := { r.sup with operating := .ready }, pins := { r.pins with safeRun := true } } : State).answer h 0x16#8 .ok
           [])) ∧
     (r.sup.operating = .tripped → r.sup.tripDemand = false → r.banks.generation = 0 →
       exec (.resume h) s =
         .next (({ r with sup := { r.sup with operating := .start } } : State).answer h 0x16#8 .ok [])) ∧
     (r.sup.operating ≠ .tripped → exec (.resume h) s = .next (r.answer h 0x16#8 .ok [])))

/-! ## Drive ports (chapter 7) -/

/-- PORT_RESET by the port's state: ATTACHED and DISABLED, and ENABLED with the owning channel CLOSED, enter RESETTING with
cause RESET_REQUEST and send a reset frame at once; RESETTING is BUSY; DETACHED, and ENABLED with the channel not CLOSED, is
STATE; a port that is none is NO_SUCH (R128, R129, R134). PORT_DISABLE takes an ENABLED port with its channel CLOSED to
DISABLED with cause DISABLE_REQUEST and answers OK; in every other case it is refused with STATE, and a port that is none with
NO_SUCH (R136, R134). PRESENCE_CHANGE: a level held for less than 20 ms changes nothing. Held, presence takes DETACHED to
ATTACHED; its loss takes every other state to DETACHED, from RESETTING with the sequence stopped and from ENABLED by the rule
for leaving it, with DRIVE_LOST sampled true; each change sets PORT_CHANGE and its cause (R126, R127, R134).
RESET_SEQUENCE_TICK in RESETTING: the link timer restarts; reset frames go on for 50 ms after the entry, then up to three
enquiries, each with the next sequence, reference 0, enable off and brake SET; after the third the port is DISABLED with
cause RESET_FAILED. In another state the tick does nothing (R129). -/
def Obligations.PortsByState : Prop :=
  ((∀ (s : State) (h : Header), s.takesFrame h 1 →
      let r := s.receiveFrame
      (∀ port : Byte, 3 < port.toNat → exec (.portReset h port) s = .next (r.answer h 0x18#8 .noSuch [])) ∧
      ∀ m : Motion,
        let request := Instr.portReset h (byteOf (motionCode m))
        let p := r.ports.get m
        let begun (x : Port) : Port :=
          { x with
            state := .resetting, lastCause := some .resetRequest, sequence := p.sequence + 1#8
            sent := some ⟨.reset, p.sequence + 1#8, 0, false, .apply⟩, phase := some (.resetFrames 0)
            linkTimer := some ⟨r.cfg (.linkPeriod m), r.cfg (.linkPeriod m)⟩ }
        (p.state = .attached ∨ p.state = .disabled →
          exec request s = .next (((r.setPort m (begun p)).setFlag .portChange).answer h 0x18#8 .accepted [])) ∧
        (p.state = .enabled → r.channelClosed m = true →
          exec request s =
            .next ((settle
              ((r.setPort m (begun { p with outstanding := none, watch := BrakeWatch.cleared })).setFlag .portChange,
                r.breachEnds m ++ [.portLost m])).answer h 0x18#8 .accepted [])) ∧
        (p.state = .resetting → exec request s = .next (r.answer h 0x18#8 .busy [])) ∧
        (p.state = .detached ∨ (p.state = .enabled ∧ r.channelClosed m = false) →
          exec request s = .next (r.answer h 0x18#8 .state []))) ∧
   (∀ (s : State) (h : Header), s.takesFrame h 1 →
      let r := s.receiveFrame
      (∀ port : Byte, 3 < port.toNat → exec (.portDisable h port) s = .next (r.answer h 0x19#8 .noSuch [])) ∧
      ∀ m : Motion,
        let request := Instr.portDisable h (byteOf (motionCode m))
        let p := r.ports.get m
        (p.state = .enabled → r.channelClosed m = true →
          exec request s =
            .next ((settle
              ((r.setPort m
                { p with
                  state := .disabled, lastCause := some .disableRequest, linkTimer := none, outstanding := none
                  watch := BrakeWatch.cleared }).setFlag .portChange,
                r.breachEnds m ++ [.portLost m])).answer h 0x19#8 .ok [])) ∧
        (p.state ≠ .enabled ∨ r.channelClosed m = false → exec request s = .next (r.answer h 0x19#8 .state [])))) ∧
  ((∀ (s : State) (m : Motion) (held : Nat), s.inReset = false →
      let p := s.ports.get m
      let gone (x : Port) : State := (s.setPort m { x with state := .detached, lastCause := some .presenceOff }).setFlag .portChange
      (∀ active, held < 20 → exec (.presenceChange m active held) s = .next s) ∧
      (20 ≤ held →
        (p.state = .detached →
          exec (.presenceChange m true held) s =
            .next ((s.setPort m { p with state := .attached, lastCause := some .presenceOn }).setFlag .portChange) ∧
          exec (.presenceChange m false held) s = .next s) ∧
        (p.state ≠ .detached → exec (.presenceChange m true held) s = .next s) ∧
        (p.state = .attached ∨ p.state = .disabled → exec (.presenceChange m false held) s = .next (gone p)) ∧
        (p.state = .resetting →
          exec (.presenceChange m false held) s = .next (gone { p with linkTimer := none, phase := none })) ∧
        (p.state = .enabled →
          exec (.presenceChange m false held) s =
            .next (settle
              (gone { p with linkTimer := none, outstanding := none, watch := BrakeWatch.cleared },
                s.breachEnds m ++ [.portLost m, .sample (.driveLost m) true none]))))) ∧
   (∀ (s : State) (m : Motion), s.inReset = false →
      let p := s.ports.get m
      let again : Option Timer := some ⟨s.cfg (.linkPeriod m), s.cfg (.linkPeriod m)⟩
      let sending (kind : FrameKind) (phase : ResetPhase) : State :=
        s.setPort m
          { p with
            linkTimer := again, phase := some phase, sequence := p.sequence + 1#8
            sent := some ⟨kind, p.sequence + 1#8, 0, false, .apply⟩ }
      (p.state ≠ .resetting → exec (.resetSequenceTick m) s = .next s) ∧
      ∀ t : Timer, p.state = .resetting → p.linkTimer = some t →
        (∀ e, p.phase = some (.resetFrames e) → e + t.period < 50 →
          exec (.resetSequenceTick m) s = .next (sending .reset (.resetFrames (e + t.period)))) ∧
        (∀ e, p.phase = some (.resetFrames e) → 50 ≤ e + t.period →
          exec (.resetSequenceTick m) s = .next (sending .enquiry (.enquiry 1))) ∧
        (∀ n, p.phase = some (.enquiry n) → n < 3 →
          exec (.resetSequenceTick m) s = .next (sending .enquiry (.enquiry (n + 1)))) ∧
        (∀ n, p.phase = some (.enquiry n) → 3 ≤ n →
          exec (.resetSequenceTick m) s =
            .next ((s.setPort m
              { p with state := .disabled, lastCause := some .resetFailed, linkTimer := none, phase := none }).setFlag
              .portChange))))

/-- LINK_PERIOD_EVENT on an ENABLED port: the link timer restarts; a frame still unjudged is a miss, the third of which takes
the port to DISABLED with cause MISSES and no frame; otherwise the channel's reference update is made and a REFERENCE frame
with what it hands over is sent under the next sequence, becomes the outstanding frame and goes to the brake watch. On another
port nothing happens (R77, R109, R130, R133). A frame to a drive has the bytes of R198: sync 0x3C, sequence, kind, reference,
enable and brake command, 0, and the CRC-8 over bytes 0 to 6. -/
def Obligations.LinkPeriodSendsTheReference : Prop :=
  (∀ f : DriveFrame,
    let kind : Byte := match f.kind with | .reference => 0x01#8 | .reset => 0x02#8 | .enquiry => 0x03#8
    let command : Byte := match f.enable, f.brake with
      | false, .apply => 0#8 | true, .apply => 1#8 | false, .release => 2#8 | true, .release => 3#8
    let body := [0x3C#8, f.seq, kind, BitVec.ofInt 8 (f.reference / 256), BitVec.ofInt 8 f.reference, command, 0#8]
    f.bytes = body ++ [crc8 body]) ∧
  (crc8 [] = 0#8 ∧ ∀ (l : List Byte) (b : Byte),
    let shift (c : Byte) : Byte := if c.msb then (c <<< 1) ^^^ 0x07#8 else c <<< 1
    crc8 (l ++ [b]) = (List.replicate 8 shift).foldl (fun c f => f c) (crc8 l ^^^ b)) ∧
  ∀ (s : State) (m : Motion), s.inReset = false →
    let p := s.ports.get m
    let p1 := { p with linkTimer := some ⟨s.cfg (.linkPeriod m), s.cfg (.linkPeriod m)⟩ }
    let missed : Prop := ∃ o, p.outstanding = some o ∧ o.judged = false
    let p2 := { p1 with
      misses := p.misses + 1, outstanding := p.outstanding.map fun o => { o with judged := true } }
    let sent (q : Port) : State :=
      let u := s.setPort m q
      let x := u.referenceUpdate m
      x.1.setPort m
        { q with
          sequence := q.sequence + 1#8, outstanding := some ⟨q.sequence + 1#8, false⟩
          sent := some ⟨.reference, q.sequence + 1#8, x.2.reference, x.2.enable, x.2.brake⟩
          watch := q.watch.sent x.2.brake ⟨s.cfg .brakeTimeout, s.cfg .brakeTimeout⟩ }
    (p.state ≠ .enabled ∨ p.linkTimer = none → exec (.linkPeriodEvent m) s = .next s) ∧
    (p.state = .enabled → p.linkTimer ≠ none → ¬missed → exec (.linkPeriodEvent m) s = .next (sent p1)) ∧
    (p.state = .enabled → p.linkTimer ≠ none → missed → p.misses + 1 < 3 →
      exec (.linkPeriodEvent m) s = .next (sent p2)) ∧
    (p.state = .enabled → p.linkTimer ≠ none → missed → 3 ≤ p.misses + 1 →
      exec (.linkPeriodEvent m) s =
        .next (settle
          ((s.setPort m
            { p2 with
              state := .disabled, lastCause := some .misses, linkTimer := none, outstanding := none
              watch := BrakeWatch.cleared }).setFlag .portChange,
            s.breachEnds m ++ [.portLost m, .sample (.driveLost m) true none])))

/-- What a reference update does by the state of the channel. CLOSED and PARKED hand reference 0, enable off, brake SET;
OPENING hands 0 with enable on and brake OPEN; PARKING and CLOSING form permitted value 0, ease the reference to 0 by the
deceleration step, or at once at a limit stop, start the rest timer where the reference so reaches 0, and hand it with the
present brake command; RUNNING forms its permitted value and hands the ramped reference with enable on and brake OPEN (R77,
R78, R79, R82). The walk: IDLE and STOPPED, OPENING and CLOSING as above, without limit stop; STEPPING, HALTING and MAINT form
the permitted value of R109 from head leg speed, derate term and WALK_CREEP, held to WALK_CREEP in the approach zone (teeth 60
to 63) while a stop at park is due by the cases of R104, and hand the ramped reference with enable on and brake OPEN (R104,
R109, R115). That a rest timer started at the entry with reference 0 runs on at a channel's first update there is the model's
choice, as R82 does not say whether it is started anew (assumption log 36, DESIGN CHOICE). -/
def Obligations.ReferenceUpdatesByState : Prop :=
  (∀ (s : State) (a : Axis),
     let c := s.channels.get a
     let x := s.referenceUpdate a.motion
     let stop : Prop := c.mode = .follow ∧ ((0 < c.reference ∧ (s.limitingTerms a).pos = 0) ∨
       (c.reference < 0 ∧ (s.limitingTerms a).neg = 0))
     let eased (r : Int) : State × Handed :=
       (s.setChannel a
         { c with permitted := 0, reference := r, restTimer := if c.reference ≠ 0 ∧ r = 0 then s.brakeStart else c.restTimer },
         ⟨r, true, c.brake⟩)
     x = s.channelUpdate a ∧ (c.state = .closed ∨ c.state = .parked → x = (s, ⟨0, false, .apply⟩)) ∧
     (c.state = .opening → x = (s, ⟨0, true, .release⟩)) ∧
     (c.state = .parking ∨ c.state = .closing →
       (stop → x = eased 0) ∧ (¬stop → x = eased (easedToZero c.reference (s.cfg (.decelStep a.motion))))) ∧
     (c.state = .running →
       let p := s.permittedValue a c
       let ran (r : Int) : State × Handed := (s.setChannel a { c with permitted := p, reference := r }, ⟨r, true, .release⟩)
       (stop → x = ran 0) ∧
       (¬stop → x = ran (ramp (s.cfg (.accelStep a.motion)) (s.cfg (.decelStep a.motion)) c.reference p)))) ∧
  (∀ s : State,
     let w := s.walk
     let x := s.referenceUpdate .walk
     let creep : Int := s.cfg .walkCreep
     let derate : Int := w.derate
     let head : Int := match s.plan with
       | l :: _ => l.speed
       | [] => creep
     let held (p : Int) : Int := if s.stopDue = true ∧ 60 ≤ s.asu.teeth.toNat ∧ 0 < p then min p creep else p
     let ran (p : Int) : State × Handed :=
       let r := ramp (s.cfg (.accelStep .walk)) (s.cfg (.decelStep .walk)) w.reference p
       (s.setWalk { w with permitted := p, reference := r }, ⟨r, true, .release⟩)
     (w.state = .idle ∨ w.state = .stopped → x = (s, ⟨0, false, .apply⟩)) ∧
     (w.state = .opening → x = (s, ⟨0, true, .release⟩)) ∧
     (w.state = .closing →
       let r := easedToZero w.reference (s.cfg (.decelStep .walk))
       x = (s.setWalk
         { w with permitted := 0, reference := r, restTimer := if w.reference ≠ 0 ∧ r = 0 then s.brakeStart else w.restTimer },
         ⟨r, true, w.brake⟩)) ∧
     (∀ r, w.run = some r → w.state = .stepping ∨ (w.state = .halting ∧ r.recovery = false) →
       (r.dir = .forward → r.recovery = false → x = ran (held (min head derate))) ∧
       (r.dir = .forward → r.recovery = true → x = ran (held (min head (min derate creep)))) ∧
       (r.dir = .reverse → x = ran (-(min creep derate)))) ∧
     (w.state = .maint →
       let least := min (w.demand.natAbs : Int) (min creep derate)
       x = ran (if 0 < w.demand then least else if w.demand < 0 then -least else 0)) ∧
     (∀ r, w.run = some r → r.dir = .forward →
       (w.state = .halting → s.stopDue = true) ∧ (w.state = .stepping → r.recovery = true → s.stopDue = true) ∧
       (w.state = .stepping → r.recovery = false →
         (s.stopDue = true ↔ ∃ l rest, s.plan = l :: rest ∧ l.stepsDone + 1 = l.steps ∧
           ∀ second, rest.head? = some second → ¬s.windowAdmits s.banks.active second.window))) ∧
     (∀ r, w.run = some r → r.dir = .reverse → s.stopDue = false))

/-- DRIVE_STATUS_FRAME. In ENABLED a frame is judged only against an outstanding frame not yet judged: a bad frame or a wrong
echo is a miss, the echo before is discarded, and a good reply ends the misses and is stored, leaves ENABLED where it reports
a fault, and else goes to the brake watch and the channel. In ENQUIRY the reply to the latest enquiry is stored, and enters
ENABLED when ready without fault. Every other frame is discarded (R126, R129, R131, R132, R133, R198). The brake watch by the
rows of R137: a frame that turns the command round leaves it unconfirmed, a SET after a confirmed OPEN timed and after an
unconfirmed one untimed, with its timer started; a reply that agrees confirms; brake_open against a SET confirmed or untimed
is a breach. A breach samples BRAKE_MISMATCH true with the port's number; the last port to leave breach, by a reply that
agrees or by leaving ENABLED, samples it false (R138). BRAKE_WATCH_TIMER_EXPIRY with the timer running: a breach where SET
stands unconfirmed; the timer ends in either case, and with no timer running nothing happens (R137, R138). That the watch
enters ENABLED confirmed by brake_set without brake_open is the model's reading of R129 (assumption log 15, DEDUCED). That
DRIVE_LOST is sampled false before DRIVE_FAULT there is the model's choice (assumption log 26). -/
def Obligations.RepliesAndBrakeWatch : Prop :=
  (∀ (s : State) (m : Motion) (bytes : List Byte), s.inReset = false →
     let p := s.ports.get m
     let frame := readStatusFrame bytes
     let done := exec (.driveStatusFrame m bytes) s
     let judged := p.outstanding.map fun o => { o with judged := true }
     let left (x : Port) (cause : PortCause) (code : Code) : State × List Act :=
       ((s.setPort m
         { x with
           state := .disabled, lastCause := some cause, linkTimer := none, outstanding := none
           watch := BrakeWatch.cleared }).setFlag .portChange,
         s.breachEnds m ++ [.portLost m, .sample code true none])
     let miss : State × List Act :=
       let x := { p with misses := p.misses + 1, outstanding := judged }
       if p.misses + 1 < 3 then (s.setPort m x, []) else left x .misses (.driveLost m)
     (∀ f, frame = some f → ∃ b3 b4 b5 b6 b7 b2, bytes = [0xC3#8, f.echo, b2, b3, b4, b5, b6, b7] ∧
       crc8 [0xC3#8, f.echo, b2, b3, b4, b5, b6] = b7 ∧
       f.status = ⟨b2.getLsbD 0, b2.getLsbD 1, b2.getLsbD 2, b2.getLsbD 3, b2.getLsbD 4⟩) ∧
     (∀ echo b2 b3 b4 b5 b6 : Byte,
       bytes = [0xC3#8, echo, b2, b3, b4, b5, b6, crc8 [0xC3#8, echo, b2, b3, b4, b5, b6]] →
       frame = some ⟨echo, ⟨b2.getLsbD 0, b2.getLsbD 1, b2.getLsbD 2, b2.getLsbD 3, b2.getLsbD 4⟩⟩) ∧
     (p.state = .detached ∨ p.state = .attached ∨ p.state = .disabled → done = .next s) ∧
     (p.state = .enabled → (∀ o, p.outstanding = some o → o.judged = true) → done = .next s) ∧
     (∀ o, p.state = .enabled → p.outstanding = some o → o.judged = false →
       (frame = none → done = .next (settle miss)) ∧
       ∀ f, frame = some f →
         (f.echo ≠ o.seq → f.echo = o.seq - 1#8 → done = .next s) ∧
         (f.echo ≠ o.seq → f.echo ≠ o.seq - 1#8 → done = .next (settle miss)) ∧
         (f.echo = o.seq → f.status.fault = true →
           done = .next (settle (left { p with lastStatus := some f.status, misses := 0 } .fault (.driveFault m)))) ∧
         (f.echo = o.seq → f.status.fault = false →
           let after := (p.watch.judge f.status).1
           let breach := (p.watch.judge f.status).2
           let acts : List Act :=
             if breach then [.sample .brakeMismatch true (some (portNumber m))]
             else if p.watch.inBreach && !after.inBreach then s.breachEnds m else []
           done =
             .next (settle
               (s.setPort m { p with lastStatus := some f.status, misses := 0, outstanding := judged, watch := after },
                 acts ++ [.reply m f.status])))) ∧
     (p.state = .resetting →
       (∀ n f, p.phase = some (.enquiry n) → frame = some f → f.echo = p.sequence →
         (f.status.ready = true → f.status.fault = false →
           done =
             .next (settle
               ((s.setPort m
                 { p with
                   state := .enabled, lastCause := some .resetOk, lastStatus := some f.status, misses := 0
                   outstanding := none, phase := none
                   watch := ⟨.apply, f.status.brakeSet && !f.status.brakeOpen, false, false, none⟩ }).setFlag .portChange,
                 [.sample (.driveLost m) false none, .sample (.driveFault m) false none]))) ∧
         (f.status.ready = false ∨ f.status.fault = true →
           done = .next (s.setPort m { p with lastStatus := some f.status }))) ∧
       ((∀ n, p.phase ≠ some (.enquiry n)) ∨ (∀ f, frame = some f → f.echo ≠ p.sequence) → done = .next s))) ∧
  (∀ (w : BrakeWatch) (d : DriveStatus) (t : Timer),
     (w.command = .apply → w.sent .apply t = w ∧
       w.sent .release t = { w with command := .release, confirmed := false, timed := false, timer := none }) ∧
     (w.command = .release → w.sent .release t = w ∧
       w.sent .apply t = { w with command := .apply, confirmed := false, timed := w.confirmed, timer := some t }) ∧
     (w.command = .release → d.brakeOpen = true → w.judge d = ({ w with confirmed := true, inBreach := false }, false)) ∧
     (w.command = .release → d.brakeOpen = false → w.judge d = (w, false)) ∧
     (w.command = .apply → d.brakeOpen = true → w.confirmed = true ∨ w.timed = false →
       w.judge d = ({ w with inBreach := true }, true)) ∧
     (w.command = .apply → d.brakeOpen = true → w.confirmed = false → w.timed = true → w.judge d = (w, false)) ∧
     (w.command = .apply → d.brakeOpen = false → d.brakeSet = true →
       w.judge d = ({ w with confirmed := true, timer := none, inBreach := false }, false)) ∧
     (w.command = .apply → d.brakeOpen = false → d.brakeSet = false → w.judge d = (w, false))) ∧
  (∀ (s : State) (m : Motion),
     let last : Prop := (s.ports.get m).watch.inBreach = true ∧ ∀ n, n ≠ m → (s.ports.get n).watch.inBreach = false
     (last → s.breachEnds m = [.sample .brakeMismatch false none]) ∧ (¬last → s.breachEnds m = [])) ∧
  (∀ (s : State) (m : Motion), s.inReset = false →
     let p := s.ports.get m
     let number : Int := match m with | .hoist => 0 | .drag => 1 | .swing => 2 | .walk => 3
     portNumber m = number ∧
     (p.watch.timer = none → exec (.brakeWatchTimerExpiry m) s = .next s) ∧
     (p.watch.timer ≠ none → p.watch.command = .apply → p.watch.confirmed = false →
       exec (.brakeWatchTimerExpiry m) s =
         .next (settle
           (s.setPort m { p with watch := { p.watch with timer := none, inBreach := true } },
             [.sample .brakeMismatch true (some number)]))) ∧
     (p.watch.timer ≠ none → p.watch.command = .release ∨ p.watch.confirmed = true →
       exec (.brakeWatchTimerExpiry m) s = .next (s.setPort m { p with watch := { p.watch with timer := none } })))

/-- What a good reply does at a channel and at the walk. OPENING: ready with brake_open goes to RUNNING with the open timer
stopped. PARKING and CLOSING: at_rest with reference 0 and brake command OPEN sets the brake command and stops the rest timer;
brake_set with brake command SET leads to PARKED, or to CLOSED with cause CLOSE. A channel that looks at its hold sources in
PARKED opens where there are none, closes with cause UNREFERENCED where that is among them, and else stays. Every other reply
changes nothing (R73, R83, R84, R87). The walk in OPENING with ready and brake_open, by its target: STEP after checks 4 and 7,
RECOVER and HALT after check 4, and MAINT enter their state; a failed check samples WALK_PRECONDITION and leads to CLOSING or
to STOPPED; a reverse recovery run confirmed at park takes its park arrival there (R107, R118). In CLOSING the brake is set as
for a channel, and brake_set ends it in IDLE, or in STOPPED where origin PARK finds the cam off park (R115). The model's
choices: a failed check changes the state before its sample acts (assumption log 21), and the reference judged is the record's
(log 22). Likewise the change of state is handed on after the DEMAND_LOST sample of a closing and the WALK_PRECONDITION sample
of a failed check (logs 27, 32), and before the look of an entry into PARKED and the park arrival of a recovery (logs 31, 33).
-/
def Obligations.RepliesActByState : Prop :=
  (∀ (s : State) (a : Axis) (d : DriveStatus),
     let c := s.channels.get a
     let done := settle (s, [.reply a.motion d])
     let look := settle (s, [.parkedLook a])
     let braked : Prop := d.atRest = true ∧ c.reference = 0 ∧ c.brake = .release
     let ended : Prop := d.brakeSet = true ∧ c.brake = .apply
     let closes (cause : HaltCause) : State :=
       settle ((s.setChannel a (c.closedBy cause)).setFlag (.halted a.motion),
         [.sample (.demandLost a) false none, .channelChanged a])
     (c.state = .opening →
       (d.ready = true → d.brakeOpen = true →
         done = settle (s.setChannel a { c with state := .running, openTimer := none }, [.channelChanged a])) ∧
       (d.ready = false ∨ d.brakeOpen = false → done = s)) ∧
     (c.state = .parking ∨ c.state = .closing →
       (braked → done = s.setChannel a { c with brake := .apply, restTimer := none }) ∧
       (ended → c.state = .parking →
         done = settle (s.setChannel a { c with state := .parked, enable := false, reference := 0, permitted := 0 },
           [.channelChanged a, .parkedLook a])) ∧
       (ended → c.state = .closing → done = closes .close) ∧ (¬braked → ¬ended → done = s)) ∧
     (c.state = .closed ∨ c.state = .running ∨ c.state = .parked → done = s) ∧
     (c.state = .parked →
       (c.holds = ⟨false, false, false, false⟩ →
         look = settle
           (s.setChannel a
             { c with
               state := .opening, enable := true, brake := .release, reference := 0, permitted := 0
               openTimer := s.brakeStart }, [.channelChanged a])) ∧
       (c.holds.unreferenced = true → look = closes .unreferenced) ∧
       (c.holds ≠ ⟨false, false, false, false⟩ → c.holds.unreferenced = false → look = s)) ∧
     (c.state ≠ .parked → look = s)) ∧
  (∀ (s : State) (d : DriveStatus),
     let w := s.walk
     let done := settle (s, [.reply .walk d])
     let v := { w with openTimer := none }
     let fails (n : Int) : Act := .sample .walkPrecondition true (some n)
     let stops : State :=
       settle ((s.setWalk (v.stoppedBy .precondition)).setFlag .walkStopped, [fails 4, .walkChanged])
     let refused (n : Int) : State :=
       settle (s.setWalk (v.closingElsewhere s.brakeStart .precondition), [fails n, .walkChanged])
     let fits : Prop := ∃ l rest, s.plan = l :: rest ∧ s.windowAdmits s.banks.active l.window
     let atPark : Prop := s.asu.camReferenced = true ∧ s.asu.teeth = 0#6
     let steps (acts : List Act) : State :=
       settle (s.setWalk { v with state := .stepping, target := none }, .walkChanged :: acts)
     (w.state = .opening → d.ready = true → d.brakeOpen = true →
       (w.target = some .step →
         (s.channelsRest → fits → done = steps []) ∧ (¬s.channelsRest → done = refused 4) ∧
         (s.channelsRest → ¬fits → done = refused 7)) ∧
       (∀ r, w.target = some .recover → w.run = some r → s.channelsRest →
         (r.dir = .reverse → atPark → done = steps [.parkArrival .reverse]) ∧
         (r.dir = .forward ∨ ¬atPark → done = steps [])) ∧
       (∀ r, w.target = some .halt → w.run = some r → s.channelsRest →
         done = settle (s.setWalk { v with state := .halting, target := none, run := some ⟨r.dir, r.counted, false⟩ },
           [.walkChanged])) ∧
       (w.target = some .recover ∨ w.target = some .halt → ¬s.channelsRest → done = stops) ∧
       (w.target = some .maint → done = settle (s.setWalk { v with state := .maint, target := none }, [.walkChanged]))) ∧
     (w.state = .opening → d.ready = false ∨ d.brakeOpen = false → done = s) ∧
     (w.state = .closing →
       let braked : Prop := d.atRest = true ∧ w.reference = 0 ∧ w.brake = .release
       let ended : Prop := d.brakeSet = true ∧ w.brake = .apply
       (braked → done = s.setWalk { w with brake := .apply, restTimer := none }) ∧ (¬braked → ¬ended → done = s) ∧
       ∀ origin cause, w.closing = some ⟨origin, cause⟩ → cause ≠ .openFailed → ended →
         (origin = .other ∨ atPark →
           done = settle ((s.setWalk (w.idledBy cause)).setFlag (.halted .walk), [.walkChanged])) ∧
         (origin = .park → ¬atPark →
           done = settle ((s.setWalk (w.stoppedBy cause)).setFlag .walkStopped, [.walkChanged]))) ∧
     (w.state ≠ .opening → w.state ≠ .closing → done = s))

/-! ## Banks (chapter 4) -/

/-- The staging requests outside a pending commit write one record of STAGED and nothing else, as their arguments name it:
NO_SUCH for an item that is none, then RANGE, then the record, with caps clamped to 1000 (R54 to R59). STAGE_CURVE_POINTS
outside a pending commit, carrying n points by its length: NO_SUCH for a curve that is none or points past slot 15, RANGE for
an x or y above 20000; otherwise the n slots from the first hold the points in order, every other slot and the point count
stand, and nothing but that curve of STAGED changes (R57). While a commit is pending every staging request of an allowed
length is refused with STAGED_LOCKED, whatever its arguments (R60). -/
def Obligations.StagingRequestsWriteStaged : Prop :=
  (∀ (s : State) (h : Header), let r := s.receiveFrame
     r.banks.commit = none →
     let staged (b : Bank) : State := { r with banks := { r.banks with staged := b } }
     let b := r.banks.staged
     let cap (w : Word16) : Nat := if 1000 < w.toNat then 1000 else w.toNat
     (s.takesFrame h 7 → ∀ (window marks sector : Byte) (base mask : Word16),
       let done := exec (.stageWindow h window marks base mask sector) s
       (15 < window.toNat ∨ 7 < sector.toNat → done = .next (r.answer h 0x20#8 .noSuch [])) ∧
       (window.toNat ≤ 15 → sector.toNat ≤ 7 → 4095 < base.toNat ∨ 4095 < mask.toNat →
         done = .next (r.answer h 0x20#8 .range [])) ∧
       (∀ (i : Fin 16) (k : Fin 8), window.toNat = i.val → sector.toNat = k.val → base.toNat ≤ 4095 → mask.toNat ≤ 4095 →
         let w : Window :=
           ⟨marks.getLsbD 0, base.setWidth 12, mask.setWidth 12, k, marks.getLsbD 1, marks.getLsbD 2⟩
         done = .next ((staged { b with windows := b.windows.set i w }).answer h 0x20#8 .ok (windowBytes i w)))) ∧
     (s.takesFrame h 13 → ∀ (sector ceiling floor : Byte) (dmin dmax hc dc sc : Word16),
       let done := exec (.stageSector h sector ceiling floor dmin dmax hc dc sc) s
       (8 < sector.toNat ∨ 15 < ceiling.toNat ∨ 15 < floor.toNat → done = .next (r.answer h 0x21#8 .noSuch [])) ∧
       (sector.toNat ≤ 8 → ceiling.toNat ≤ 15 → floor.toNat ≤ 15 → 20000 < dmin.toNat ∨ 20000 < dmax.toNat →
         done = .next (r.answer h 0x21#8 .range [])) ∧
       (∀ (i : Fin 9) (c f : Fin 16), sector.toNat = i.val → ceiling.toNat = c.val → floor.toNat = f.val →
         dmin.toNat ≤ 20000 → dmax.toNat ≤ 20000 →
         let x : Sector := ⟨c, f, dmin.toNat, dmax.toNat, cap hc, cap dc, cap sc⟩
         done =
           .next ((staged { b with sectors := b.sectors.set i x }).answer h 0x21#8
             (if hc.toNat ≤ 1000 ∧ dc.toNat ≤ 1000 ∧ sc.toNat ≤ 1000 then .ok else .okClamped) (sectorBytes i x)))) ∧
     (s.takesFrame h 2 → ∀ curve n : Byte,
       let done := exec (.stageCurveLength h curve n) s
       (15 < curve.toNat → done = .next (r.answer h 0x22#8 .noSuch [])) ∧
       (curve.toNat ≤ 15 → 16 < n.toNat → done = .next (r.answer h 0x22#8 .range [])) ∧
       (∀ i : Fin 16, curve.toNat = i.val → n.toNat ≤ 16 →
         done =
           .next ((staged { b with curves := b.curves.set i { b.curves[i] with count := n.toNat } }).answer h 0x22#8 .ok
             []))) ∧
     (s.takesFrame h 1 → ∀ curve : Byte,
       let done := exec (.stageBrakeCurve h curve) s
       (15 < curve.toNat → done = .next (r.answer h 0x24#8 .noSuch [])) ∧
       (∀ i : Fin 16, curve.toNat = i.val → done = .next ((staged { b with brake := i }).answer h 0x24#8 .ok []))) ∧
     (s.takesFrame h 0 →
       exec (.stageClear h) s = .next ((staged ConfigBanks.blank.staged).answer h 0x25#8 .ok []) ∧
       exec (.stageCopy h) s = .next ((staged r.banks.active).answer h 0x26#8 .ok []))) ∧
  (∀ (s : State) (h : Header) (curve first : Byte) (points : Vector RawPoint 6) (n : Nat), 1 ≤ n → n ≤ 6 →
     s.takesFrame h (4 * n + 2) →
     let r := s.receiveFrame
     r.banks.commit = none →
     let done := exec (.stageCurvePoints h curve first points) s
     let fits : Prop := ∀ (j : Fin 6), j.val < n → points[j].x.toNat ≤ 20000 ∧ points[j].y.toNat ≤ 20000
     (15 < curve.toNat ∨ 16 < first.toNat + n → done = .next (r.answer h 0x23#8 .noSuch [])) ∧
     (curve.toNat ≤ 15 → first.toNat + n ≤ 16 → ¬fits → done = .next (r.answer h 0x23#8 .range [])) ∧
     (∀ i : Fin 16, curve.toNat = i.val → first.toNat + n ≤ 16 → fits →
       ∃ slots : Vector Point 16,
         done =
           .next (({ r with banks := { r.banks with staged := { r.banks.staged with
             curves := r.banks.staged.curves.set i { r.banks.staged.curves[i] with slots := slots } } } } : State).answer h
             0x23#8 .ok []) ∧
         (∀ (j : Fin 6) (k : Fin 16), j.val < n → k.val = first.toNat + j.val →
           slots[k] = ⟨points[j].x.toNat, points[j].y.toNat⟩) ∧
         (∀ k : Fin 16, k.val < first.toNat ∨ first.toNat + n ≤ k.val → slots[k] = r.banks.staged.curves[i].slots[k]))) ∧
  (∀ (i : Instr) (h : Header) (code : Byte) (s : State), requestOf i = some (h, code) →
     0x20 ≤ code.toNat → code.toNat ≤ 0x26 → s.takesNothing = false → h.len.toNat ∈ allowedLengths code →
     s.receiveFrame.banks.commit ≠ none → exec i s = .next (s.receiveFrame.answer h code .stagedLocked []))

/-- COMMIT: BUSY while one is pending; COMMIT_INVALID with detail and index where validation of STAGED fails, recorded as the
last outcome; otherwise pending with the commit timer at COMMIT_TIMEOUT, ACCEPTED, and tested at once (R61, R66, R67). A test
of a pending commit: with the safe condition holding, STAGED becomes ACTIVE under the next generation (1 after 65535), the
commit ends with COMMIT_DONE, and generation 1 takes START to READY with SAFE_RUN high; otherwise only the failing part is
recorded; with no commit pending nothing is tested (R63, R64, R179). COMMIT_TIMER_EXPIRY abandons a pending commit: the last
outcome is ABANDONED, COMMIT_ABANDONED is set, and the banks stand; with none pending nothing happens (R67). -/
def Obligations.CommitRunsItsCourse : Prop :=
  (∀ (s : State) (h : Header), s.takesFrame h 0 →
     let r := s.receiveFrame
     (r.banks.commit ≠ none → exec (.commit h) s = .next (r.answer h 0x27#8 .busy [])) ∧
     (∀ d n, r.banks.commit = none → r.banks.staged.validate = some (d, n) →
       exec (.commit h) s =
         .next (({ r with banks := { r.banks with outcome := some (.refused d n) } } : State).answer h 0x27#8 .commitInvalid
           [(match d with
             | .windowAlign => 1#8
             | .curveUnset => 2#8
             | .curveOrder => 3#8
             | .sectorRange => 4#8
             | .curvesCross => 5#8), byteOf n])) ∧
     (r.banks.commit = none → r.banks.staged.validate = none →
       let timer : Timer := ⟨r.cfg .commitTimeout * 1000, r.cfg .commitTimeout * 1000⟩
       exec (.commit h) s =
         .next ((settle
           ({ r with banks := { r.banks with commit := some ⟨timer, r.safeTest⟩ } }, [.commitTest])).answer h 0x27#8 .accepted
           []))) ∧
  (∀ s : State,
     let g := if 65535 ≤ s.banks.generation then 1 else s.banks.generation + 1
     let u := ({ s with banks := { s.banks with
       active := s.banks.staged, generation := g, commit := none, outcome := some (.done g) } } : State).setFlag .commitDone
     (s.banks.commit = none → settle (s, [.commitTest]) = s) ∧
     (∀ p, s.banks.commit = some p →
       (s.safeTest = .holding →
         (s.sup.operating = .start → g = 1 →
           settle (s, [.commitTest]) =
             { u with sup := { u.sup with operating := .ready }, pins := { u.pins with safeRun := true } }) ∧
         (s.sup.operating ≠ .start ∨ g ≠ 1 → settle (s, [.commitTest]) = u)) ∧
       (s.safeTest ≠ .holding →
         settle (s, [.commitTest]) =
           { s with banks := { s.banks with commit := some { p with lastTest := s.safeTest } } }))) ∧
  (∀ s : State, s.inReset = false →
     (s.banks.commit ≠ none →
       exec .commitTimerExpiry s =
         .next (({ s with banks := { s.banks with commit := none, outcome := some .abandoned } } : State).setFlag
           .commitAbandoned)) ∧
     (s.banks.commit = none → exec .commitTimerExpiry s = .next s))

/-- What a test of the safe condition answers, and what validation finds. The test, against STAGED (R63): with a rope or swing channel
neither CLOSED nor PARKED, NOGO at a NOGO angle, then ENVELOPE outside the governing sector's envelope; then, with the walk in
STEPPING, HALTING or STOPPED, LEG_WINDOW where there is no head leg or its window does not admit the angle; else holding.
Validation (R62): the first failure of the five checks in their order. WINDOW_ALIGN: an enabled window with a mask not
contiguous from the top or a base bit outside it, the lowest such window. CURVE_UNSET: a referenced curve of fewer than two
points, first by reachable sector, ceiling then floor, then the braking curve. CURVE_ORDER: a referenced curve whose x values do not
rise strictly, the lowest-numbered. SECTOR_RANGE: a reachable sector with Dmin at or above Dmax. CURVES_CROSS: a reachable
sector whose ceiling plus 50 passes its floor at an x of one of its curves' points, Dmin or Dmax. None where no check fails. -/
def Obligations.SafeConditionAndValidation : Prop :=
  (∀ s : State,
     let b := s.banks.staged
     let a := s.asu.swing.angle
     let inside := b.containsAt a s.asu.drag.payout s.asu.hoist.payout
     let walks : Prop := s.walk.state = .stepping ∨ s.walk.state = .halting ∨ s.walk.state = .stopped
     let leg : Prop := ∃ l rest, s.plan = l :: rest ∧ s.windowAdmits b l.window
     (¬s.channelsRest → b.isNogo a = true → s.safeTest = .nogo) ∧
     (¬s.channelsRest → b.isNogo a = false → inside = false → s.safeTest = .envelope) ∧
     (s.channelsRest ∨ (b.isNogo a = false ∧ inside = true) →
       (walks → ¬leg → s.safeTest = .legWindow) ∧ (¬walks ∨ leg → s.safeTest = .holding))) ∧
  (∀ b : Bank,
     let skew (i : Fin 16) : Prop := b.windows[i].enable = true ∧
       ((∀ k, k ≤ 12 → b.windows[i].mask ≠ 4095#12 <<< (12 - k)) ∨ b.windows[i].base &&& ~~~b.windows[i].mask ≠ 0#12)
     let reached (i : Fin 9) : Prop := i = 8 ∨ ∃ w : Fin 16, b.windows[w].enable = true ∧ b.windows[w].sector.val = i.val
     let points (c : Fin 16) : List Point := b.curves[c].slots.toList.take b.curves[c].count
     let unset (c : Fin 16) : Prop := b.curves[c].count < 2
     let disorder (c : Fin 16) : Prop := ∃ before p q after, points c = before ++ p :: q :: after ∧ q.x ≤ p.x
     let narrow (i : Fin 9) : Prop := b.sectors[i].dmax ≤ b.sectors[i].dmin
     let cross (i : Fin 9) : Prop := ∃ x lo hi, (x = b.sectors[i].dmin ∨ x = b.sectors[i].dmax ∨
         ∃ p, (p ∈ points b.sectors[i].ceiling ∨ p ∈ points b.sectors[i].floor) ∧ p.x = x) ∧
       b.hoistLimits b.sectors[i] x = some (lo, hi) ∧ hi < lo + 50
     let refs := b.referencedCurves
     let aligned : Prop := ∀ i, ¬skew i
     let set : Prop := ∀ c ∈ refs, ¬unset c
     let ordered : Prop := ∀ c ∈ refs, ¬disorder c
     let wide : Prop := ∀ i, reached i → ¬narrow i
     (∃ order : List (Fin 9), order.Pairwise (fun i j => i.val < j.val) ∧ (∀ i, i ∈ order ↔ reached i) ∧
       refs = order.flatMap (fun i => [b.sectors[i].ceiling, b.sectors[i].floor]) ++ [b.brake]) ∧
     (∀ i, skew i → (∀ j, j.val < i.val → ¬skew j) → b.validate = some (.windowAlign, i.val)) ∧
     (∀ before c after, aligned → refs = before ++ c :: after → unset c → (∀ e ∈ before, ¬unset e) →
       b.validate = some (.curveUnset, c.val)) ∧
     (∀ c, aligned → set → c ∈ refs → disorder c → (∀ e ∈ refs, e.val < c.val → ¬disorder e) →
       b.validate = some (.curveOrder, c.val)) ∧
     (∀ i, aligned → set → ordered → reached i → narrow i → (∀ j, reached j → j.val < i.val → ¬narrow j) →
       b.validate = some (.sectorRange, i.val)) ∧
     (∀ i, aligned → set → ordered → wide → reached i → cross i → (∀ j, reached j → j.val < i.val → ¬cross j) →
       b.validate = some (.curvesCross, i.val)) ∧
     (aligned → set → ordered → wide → (∀ i, reached i → ¬cross i) → b.validate = none))

/-- COMMIT_CANCEL ends a pending commit without bringing it into force: no commit is pending, the last outcome is CANCELLED,
STAGED and ACTIVE and everything else stand, and the response is OK; with none pending it is refused with STATE. -/
def Obligations.CommitCancelEndsIt : Prop :=
  ∀ (s : State) (h : Header), s.takesFrame h 0 →
    let r := s.receiveFrame
    (r.banks.commit ≠ none →
      exec (.commitCancel h) s =
        .next (({ r with banks := { r.banks with commit := none, outcome := some .cancelled } } : State).answer h 0x28#8 .ok
          [])) ∧
    (r.banks.commit = none → exec (.commitCancel h) s = .next (r.answer h 0x28#8 .state []))

/-! ## The walk (chapter 6) -/

/-- LEG_APPEND by its checks: NO_SUCH for a window that is none, RANGE for steps outside 1 to 63, PLAN_FULL with eight legs;
otherwise a leg at the tail with an id from 1 to 255 that no other leg holds, the first free one on from the counter, 255
followed by 1, no steps done and its speed clamped to 100 to 1000; a leg on an empty plan is a new head leg and tests a
pending commit (R99, R100, R103). LEG_DROP removes the leg of its id and keeps the order of the others, with OK; NO_SUCH for
an id no leg holds, LEG_ACTIVE for the head leg outside IDLE; dropping the head leg tests a pending commit. PLAN_CLEAR empties
the plan in IDLE and samples WALK_PRECONDITION false, and is refused with WALK_ACTIVE elsewhere (R101, R102, R103). The
model's choice: PLAN_CLEAR tests the commit before it samples (assumption log 24). -/
def Obligations.PlanRequestsChangeThePlan : Prop :=
  (∀ (s : State) (h : Header) (window steps : Byte) (speed : Word16), s.takesFrame h 4 → s.planSound →
     let r := s.receiveFrame
     let done := exec (.legAppend h window steps speed) s
     let v := if speed.toNat < 100 then 100 else if 1000 < speed.toNat then 1000 else speed.toNat
     (15 < window.toNat → done = .next (r.answer h 0x30#8 .noSuch [])) ∧
     (window.toNat ≤ 15 → steps.toNat = 0 ∨ 63 < steps.toNat → done = .next (r.answer h 0x30#8 .range [])) ∧
     (window.toNat ≤ 15 → 1 ≤ steps.toNat → steps.toNat ≤ 63 → r.plan.length = 8 →
       done = .next (r.answer h 0x30#8 .planFull [])) ∧
     (∀ i : Fin 16, window.toNat = i.val → 1 ≤ steps.toNat → steps.toNat ≤ 63 → r.plan.length < 8 →
       let onFrom (k : Nat) : Nat := (r.nextLegId - 1 + k) % 255 + 1
       ∃ id, 1 ≤ id ∧ id ≤ 255 ∧ (∀ l ∈ r.plan, l.id ≠ id) ∧
         ((∀ l ∈ r.plan, l.id ≠ r.nextLegId) → id = r.nextLegId) ∧
         (∃ k, k < 255 ∧ id = onFrom k ∧ ∀ j, j < k → ∃ l ∈ r.plan, l.id = onFrom j) ∧
         done =
           .next ((settle
             ({ r with
               plan := r.plan ++ [⟨id, i, steps.toNat, 0, v⟩], nextLegId := if id = 255 then 1 else id + 1 },
               if r.plan = [] then [.commitTest] else [])).answer h 0x30#8 (if v = speed.toNat then .ok else .okClamped)
             ([byteOf id] ++ nat16 v)))) ∧
  (∀ (s : State) (h : Header), let r := s.receiveFrame
     (s.takesFrame h 1 → ∀ id : Byte,
       let done := exec (.legDrop h id) s
       let others := r.plan.filter fun l => l.id != id.toNat
       ((∀ l ∈ r.plan, l.id ≠ id.toNat) → done = .next (r.answer h 0x31#8 .noSuch [])) ∧
       (∀ l rest, r.plan = l :: rest → l.id = id.toNat →
         (r.walk.state ≠ .idle → done = .next (r.answer h 0x31#8 .legActive [])) ∧
         (r.walk.state = .idle →
           done = .next ((settle ({ r with plan := others }, [.commitTest])).answer h 0x31#8 .ok []))) ∧
       (∀ l rest, r.plan = l :: rest → l.id ≠ id.toNat → (∃ x ∈ rest, x.id = id.toNat) →
         done = .next (({ r with plan := others } : State).answer h 0x31#8 .ok []))) ∧
     (s.takesFrame h 0 →
       (r.walk.state ≠ .idle → exec (.planClear h) s = .next (r.answer h 0x32#8 .walkActive [])) ∧
       (r.walk.state = .idle →
         exec (.planClear h) s =
           .next ((settle
             ({ r with plan := [] },
               (if r.plan = [] then [] else [.commitTest]) ++ [.sample .walkPrecondition false none])).answer h 0x32#8 .ok
             []))))

/-- WALK_START in IDLE: STATE for an empty plan; then checks 1 to 7, the first failing of which refuses it and is sampled as
WALK_PRECONDITION with its number; then STATE while a halt source is present; otherwise WALK_PRECONDITION is sampled false and
the walk then enters OPENING with target STEP and a plain run, ACCEPTED (R105, R106). WALK_START in STOPPED begins recovery:
refused by the operating state or for stale tilt, with the check sampled; otherwise, after the sample false, OPENING with
target RECOVER, or HALT where a halt source then stands, and a recovery run: reverse and uncounted with the shoes down (teeth 0
to 15), else forward and counted (R104, R118). -/
def Obligations.WalkStartByState : Prop :=
  (∀ (s : State) (h : Header), s.takesFrame h 0 →
     let r := s.receiveFrame
     let done := exec (.walkStart h) s
     let resting (c : Channel) : Bool := c.state == .closed || c.state == .parked
     let box : Bool :=
       decide (r.cfg .carryDmin ≤ r.asu.drag.payout ∧ r.asu.drag.payout ≤ r.cfg .carryDmax ∧
         r.cfg .carryHmin ≤ r.asu.hoist.payout ∧ r.asu.hoist.payout ≤ r.cfg .carryHmax)
     let tilt : Bool :=
       decide (r.asu.stale = false ∧ r.asu.roll.natAbs ≤ r.cfg .rollLimit ∧ r.asu.pitch.natAbs ≤ r.cfg .pitchLimit)
     let window : Bool := r.plan.head?.any fun l => r.banks.active.legAllowed l.window r.asu.swing.angle
     let checks : List (Bool × Status × Int) :=
       [(r.sup.operating == .start, .notConfigured, 1), (r.sup.operating == .tripped, .tripActive, 1),
         (r.ports.walk.state != .enabled, .portNotEnabled, 2), (!r.asu.camReferenced, .notReferenced, 3),
         (!(resting r.channels.hoist && resting r.channels.drag && resting r.channels.swing), .state, 4),
         (!box, .precondition, 5), (!tilt, .precondition, 6), (!window, .precondition, 7)]
     (r.walk.state = .idle → r.plan = [] → done = .next (r.answer h 0x34#8 .state [])) ∧
     (∀ x, r.walk.state = .idle → r.plan ≠ [] → checks.find? (fun c => c.1) = some x →
       done =
         .next ((settle (r, [.sample .walkPrecondition true (some x.2.2)])).answer h 0x34#8 x.2.1 [])) ∧
     (r.walk.state = .idle → r.plan ≠ [] → checks.find? (fun c => c.1) = none →
       (r.walk.halts ≠ ⟨false, false⟩ → done = .next (r.answer h 0x34#8 .state [])) ∧
       (r.walk.halts = ⟨false, false⟩ →
         let u := settle (r, [.sample .walkPrecondition false none])
         done =
           .next ((settle
             (u.setWalk
               { u.walk with
                 state := .opening, target := some .step, run := some ⟨.forward, true, false⟩, enable := true
                 brake := .release, reference := 0, permitted := 0
                 openTimer := some ⟨r.cfg .brakeTimeout, r.cfg .brakeTimeout⟩ },
               [.walkChanged])).answer h 0x34#8 .accepted []))) ∧
     (r.walk.state ≠ .idle → r.walk.state ≠ .stopped → done = .next (r.answer h 0x34#8 .state []))) ∧
  (∀ (s : State) (h : Header), s.takesFrame h 0 →
     let r := s.receiveFrame
     let done := exec (.walkStart h) s
     let fails (x : Status) (n : Int) : State :=
       (settle (r, [.sample .walkPrecondition true (some n)])).answer h 0x34#8 x []
     r.walk.state = .stopped →
     (r.sup.operating = .start → done = .next (fails .notConfigured 1)) ∧
     (r.sup.operating = .tripped → done = .next (fails .tripActive 1)) ∧
     (r.sup.operating = .ready → r.asu.stale = true → done = .next (fails .precondition 6)) ∧
     (r.sup.operating = .ready → r.asu.stale = false →
       let u := settle (r, [.sample .walkPrecondition false none])
       done =
         .next ((settle
           (u.setWalk
             { u.walk with
               state := .opening, target := some (if u.walk.halts = ⟨false, false⟩ then .recover else .halt)
               run := some (if r.asu.teeth.toNat ≤ 15 then ⟨.reverse, false, true⟩ else ⟨.forward, true, true⟩)
               enable := true, brake := .release, reference := 0, permitted := 0
               openTimer := some ⟨r.cfg .brakeTimeout, r.cfg .brakeTimeout⟩ },
             [.walkChanged])).answer h 0x34#8 .accepted [])))

/-- What a park arrival does. In STEPPING, and in HALTING where it is in the run's direction, a forward arrival of a counted
run counts a step of the head leg; a leg so completed leaves the plan with LEG_DONE, and a pending commit is tested (R99,
R103, R110, R113). The decision in STEPPING that follows: failing tilt (6), then the carry box (5), samples WALK_PRECONDITION
and closes at park with cause PRECONDITION; then an empty plan closes with PLAN_DONE, and a head leg whose window does not
admit the angle with PAUSED; else the walk goes on with a plain run, its reference 0 after a reverse arrival (R110). A halt
ends in CLOSING at park with cause HALT (R113). Every other arrival changes nothing. The model's choice: a failed recheck
changes the state before its sample acts (assumption log 21), and the sample acts before that change is handed on (log 32). -/
def Obligations.ParkArrivals : Prop :=
  (∀ (s : State) (dir : CamDir),
     let w := s.walk
     let done := settle (s, [.parkArrival dir])
     let next : Act := if w.state = .stepping then .parkDecide dir else .haltClose
     let taken : Prop := w.state = .stepping ∨ (w.state = .halting ∧ ∃ r, w.run = some r ∧ r.dir = dir)
     let counts : Prop := dir = .forward ∧ s.plan ≠ [] ∧ ∃ r, w.run = some r ∧ r.counted = true
     (taken → ¬counts → done = settle (s, [next])) ∧
     (∀ l rest, taken → counts → s.plan = l :: rest →
       (l.stepsDone + 1 = l.steps →
         done = settle (({ s with plan := rest } : State).setFlag .legDone, [.commitTest, next])) ∧
       (l.stepsDone + 1 ≠ l.steps →
         done = settle ({ s with plan := { l with stepsDone := l.stepsDone + 1 } :: rest }, [next]))) ∧
     (¬taken → done = s)) ∧
  (∀ (s : State) (dir : CamDir),
     let w := s.walk
     let done := settle (s, [.parkDecide dir])
     let closes (cause : HaltCause) (acts : List Act) : State :=
       settle (s.setWalk (w.closingAtPark s.brakeStart cause), acts ++ [.walkChanged])
     let fails (n : Int) : List Act := [.sample .walkPrecondition true (some n)]
     let tilt : Prop :=
       s.asu.stale = false ∧ s.asu.roll.natAbs ≤ s.cfg .rollLimit ∧ s.asu.pitch.natAbs ≤ s.cfg .pitchLimit
     let box : Prop := s.cfg .carryDmin ≤ s.asu.drag.payout ∧ s.asu.drag.payout ≤ s.cfg .carryDmax ∧
       s.cfg .carryHmin ≤ s.asu.hoist.payout ∧ s.asu.hoist.payout ≤ s.cfg .carryHmax
     (w.state = .stepping →
       (¬tilt → done = closes .precondition (fails 6)) ∧ (tilt → ¬box → done = closes .precondition (fails 5)) ∧
       (tilt → box → s.plan = [] → done = closes .planDone []) ∧
       (∀ l rest, tilt → box → s.plan = l :: rest →
         (¬s.windowAdmits s.banks.active l.window → done = closes .paused []) ∧
         (s.windowAdmits s.banks.active l.window →
           done = s.setWalk
             { w with
               run := some ⟨.forward, true, false⟩
               reference := match dir with
                 | .forward => w.reference
                 | .reverse => 0 }))) ∧
     (w.state ≠ .stepping → done = s) ∧
     (w.state = .halting → settle (s, [.haltClose]) = closes .halt []) ∧ (w.state ≠ .halting → settle (s, [.haltClose]) = s))

/-! ## Alarms (chapters 8 and 9) -/

/-- DEFINE by its checks: NO_SUCH for a code, class or polarity that is none, STATE for code 27, ALARM_LIVE while the code has
a record or a mark; otherwise the class raised to its floor, the scope as given, persistence clamped to 15 where it may be set
and else 0, the cap clamped to 1000, the polarity of an external code written, the run count 0, and nothing else (R146); the
class and the polarity by the codes of 12.4. RAISE and CLEAR sample their host code true, with the value clamped to ±32767
where one is given, or false; a code outside 40 to 63 is NO_SUCH; OK_CLAMPED only where a clamped value raises the code (R152,
R153). -/
def Obligations.DefineAndHostCodes : Prop :=
  (∀ (s : State) (h : Header) (code cls scope p polarity : Byte) (cap : Word16), s.takesFrame h 7 →
     let r := s.receiveFrame
     let done := exec (.define h code cls scope p cap polarity) s
     (Code.ofNum code.toNat = none ∨ 3 < cls.toNat ∨ 1 < polarity.toNat → done = .next (r.answer h 0x40#8 .noSuch [])) ∧
     let number (x : AlarmClass) : Nat := match x with | .note => 0 | .derate => 1 | .hold => 2 | .stop => 3
     ∀ (c : Code) (k : AlarmClass) (pol : Polarity), Code.ofNum code.toNat = some c → cls.toNat = number k →
       polarity.toNat = (match pol with | .activeHigh => 0 | .activeLow => 1) →
       let d := r.definition c
       let low : Prop := number k < number d.floor
       (c = .tableOverflow → done = .next (r.answer h 0x40#8 .state [])) ∧
       (c ≠ .tableOverflow → r.table.find c ≠ none ∨ d.pendingMark = true → done = .next (r.answer h 0x40#8 .alarmLive [])) ∧
       (c ≠ .tableOverflow → r.table.find c = none → d.pendingMark = false → d.floor = c.floor →
         ∃ d' : Definition, ∃ status,
           done = .next ((r.setDef c d').answer h 0x40#8 status (definitionBytes c d')) ∧
           (low → d'.cls = d.floor) ∧ (¬low → d'.cls = k) ∧
           d'.scope = ⟨scope.getLsbD 0, scope.getLsbD 1, scope.getLsbD 2, scope.getLsbD 3⟩ ∧
           d'.persistence = (if c.persistenceSettable then min 15 p.toNat else 0) ∧ d'.cap = min 1000 cap.toNat ∧
           d'.polarity = (match c with | .input _ => some pol | _ => d.polarity) ∧ d'.run = 0 ∧ d'.floor = d.floor ∧
           d'.active = d.active ∧ d'.raiseValue = d.raiseValue ∧ d'.pendingMark = d.pendingMark ∧ d'.hostRaw = d.hostRaw ∧
           (status = .okClamped ↔ low ∨ (c.persistenceSettable = true ∧ 15 < p.toNat) ∨ 1000 < cap.toNat) ∧
           (status = .ok ∨ status = .okClamped))) ∧
  (∀ (s : State) (h : Header) (code : Byte) (value : Word16), let r := s.receiveFrame
     let v : Int := if value.toInt < -32767 then -32767 else value.toInt
     let raw (i : Fin 24) (b : Bool) : State := r.setDef (.host i) { r.definition (.host i) with hostRaw := some b }
     (code.toNat < 40 ∨ 63 < code.toNat →
       (s.takesFrame h 1 ∨ s.takesFrame h 3 → exec (.raise h code value) s = .next (r.answer h 0x42#8 .noSuch [])) ∧
       (s.takesFrame h 1 → exec (.clear h code) s = .next (r.answer h 0x43#8 .noSuch []))) ∧
     ∀ i : Fin 24, code.toNat = 40 + i.val →
       (s.takesFrame h 1 →
         exec (.raise h code value) s =
           .next ((settle (raw i true, [.sample (.host i) true none])).answer h 0x42#8 .ok []) ∧
         exec (.clear h code) s =
           .next ((settle (raw i false, [.sample (.host i) false none])).answer h 0x43#8 .ok [])) ∧
       (s.takesFrame h 3 →
         exec (.raise h code value) s =
           .next ((settle (raw i true, [.sample (.host i) true (some v)])).answer h 0x42#8
             (if v ≠ value.toInt ∧ (r.definition (.host i)).active = false then .okClamped else .ok) [])))

/-- The persistence filter: a sample that agrees with the filtered state makes the run count 0; one that opposes it flips it
at once for P 0 or 1, and for P 2 to 15 at the P-th in a row. A flip makes the run count 0, keeps or drops the value carried,
reaches the ASU first for codes 23 to 25, and then the table (R148, R149). The filtered state of ENCODER_FAULT_x at the ASU:
active, it removes the reference of its axis, whose counts and position hold, and every channel re-forms its hold sources;
with the axis unreferenced or the state inactive nothing happens (R6, R10). The order hoist, drag, swing is the model's choice
(assumption log 24). -/
def Obligations.SamplesPassThePersistenceFilter : Prop :=
  ∀ (s : State) (c : Code) (raw : Bool) (value : Option Int), let d := s.definition c
    let first : List Act := match c with
      | .encoderFault a => [.faultState a]
      | _ => []
    let done := settle (s, [.sample c raw value])
    (raw = d.active → done = s.setDef c { d with run := 0 }) ∧
    (raw ≠ d.active → 2 ≤ d.persistence → d.run + 1 ≠ d.persistence → done = s.setDef c { d with run := d.run + 1 }) ∧
    (raw = true → d.active = false → d.persistence ≤ 1 ∨ d.run + 1 = d.persistence →
      done = settle (s.setDef c { d with active := true, run := 0, raiseValue := value }, first ++ [.tableRaise c])) ∧
    (raw = false → d.active = true → d.persistence ≤ 1 ∨ d.run + 1 = d.persistence →
      done = settle (s.setDef c { d with active := false, run := 0, raiseValue := none }, first ++ [.tableClear c])) ∧
    (∀ a, let done := settle (s, [.faultState a])
      let active := (s.definition (.encoderFault a)).active
      let x := s.asu
      let lost (u : AxisUnit) : State :=
        settle ({ s with asu := u }, [.reformChannel .hoist, .reformChannel .drag, .reformChannel .swing])
      let referenced := match a with
        | .hoist => x.hoist.referenced
        | .drag => x.drag.referenced
        | .swing => x.swing.referenced
      (active = false ∨ referenced = false → done = s) ∧
      (active = true → referenced = true → done = match a with
        | .hoist => lost { x with hoist := { x.hoist with referenced := false } }
        | .drag => lost { x with drag := { x.drag with referenced := false } }
        | .swing => lost { x with swing := { x.swing with referenced := false } }))

/-- A raise at the table: a code without a record gets one at the newest position under the next raise sequence number while
there is room, code 27 in its slot; a CLEARED_UNACK record is revived in its position, any other stays as it is. With 32
records the oldest NOTE record leaves, its code marked exactly if it is ACTIVE, and the raised code gets the newest position;
without a NOTE record the code is marked and no record is made. A new or revived record sets ALARM_NEW and clears the silence
flag (R154, R158 to R160, R162). -/
def Obligations.ARaiseMakesARecord : Prop :=
  ∀ (s : State) (c : Code), let t := s.raiseRecord c
    let d := s.definition c
    let seq := if 4294967295 ≤ s.table.sequence then 1 else s.table.sequence + 1
    let fresh : AlarmRecord :=
      ⟨c, .activeUnack, d.cls, d.scope, if d.cls = .derate then some d.cap else none, seq, 0, d.raiseValue, none⟩
    (s.table.find c = none → c ≠ .tableOverflow → s.table.records.length < 32 →
      t.table = { s.table with records := s.table.records ++ [fresh], sequence := seq, silence := false } ∧
        EventFlag.alarmNew.isIn t.rport.flags = true ∧ t.defs = s.defs) ∧
    (s.table.find c = none → c = .tableOverflow →
      t.table = { s.table with overflow := some fresh, sequence := seq, silence := false } ∧
        EventFlag.alarmNew.isIn t.rport.flags = true ∧ t.defs = s.defs) ∧
    (∀ x, s.table.find c = some x → x.state = .clearedUnack →
      t.table.find c = some { x with
        state := .activeUnack, recurrence := min 255 (x.recurrence + 1), value := d.raiseValue, seq := seq } ∧
        (∀ e, e ≠ c → t.table.find e = s.table.find e) ∧ t.table.listing.map AlarmRecord.code = s.table.listing.map AlarmRecord.code ∧
        t.table.silence = false ∧ EventFlag.alarmNew.isIn t.rport.flags = true ∧ t.defs = s.defs) ∧
    (∀ x, s.table.find c = some x → x.state ≠ .clearedUnack → t = s) ∧
    (s.table.find c = none → c ≠ .tableOverflow → 32 ≤ s.table.records.length →
      (∀ x ∈ s.table.records, x.cls ≠ .note) →
      t.table.records = s.table.records ∧ (t.definition c).pendingMark = true ∧
        (∀ e, e ≠ c → (t.definition e).pendingMark = (s.definition e).pendingMark)) ∧
    (∀ before n after, s.table.find c = none → c ≠ .tableOverflow → 32 ≤ s.table.records.length →
      s.table.records = before ++ n :: after → n.cls = .note → (∀ x ∈ before, x.cls ≠ .note) → n.code ≠ .tableOverflow →
      (∀ x ∈ before ++ after, x.code ≠ n.code) →
      t.table.records = before ++ after ++ [{ fresh with seq := t.table.sequence }] ∧ t.table.silence = false ∧
        EventFlag.alarmNew.isIn t.rport.flags = true ∧
        (∀ e, e ≠ n.code → (t.definition e).pendingMark = (s.definition e).pendingMark) ∧
        ((s.definition n.code).active = true → (t.definition n.code).pendingMark = true) ∧
        ((s.definition n.code).active = false → t.defs = s.defs ∧ t.table.sequence = seq ∧
          t.table.overflow = s.table.overflow))

/-- What a clear, a retirement and the sample of TABLE_OVERFLOW do at the table, and which records are in effect. A clear drops a
pending mark alone; takes an ACTIVE_UNACK record to CLEARED_UNACK with its value and sequence kept; retires one in ACTIVE_ACK
or SHELVED; and changes nothing else (R149, R154, R161). A retirement takes the record out, the cursor on it moving to the
record before it, or to start; an ordinary record's room admits the lowest-numbered marked code, whose mark is cleared, as a new
record (R154, R163, R172). TABLE_OVERFLOW, sampled at each mark, is true while a code of class DERATE or above is marked:
its raise makes its record or revives it, and its clear takes it to CLEARED_UNACK (R155, R170); out of the table from
ACTIVE_ACK is the model's reading (assumption log 23). A raise and a clear end with the consequence set, HORN and BEACON formed
and delivered (R169, R174, R175), to the channels, the walk and the Supervisor in this order: the model's choice (assumption
log 25). In effect: NOTE never, DERATE in ACTIVE_UNACK and ACTIVE_ACK alone, HOLD and STOP latched in ACTIVE_UNACK, ACTIVE_ACK
and CLEARED_UNACK (R168). Over the listing, overflow record included: the derate term of a motion is the least cap of the DERATE
records in effect that scope it, 1000 with none; its ALARM hold is present where a HOLD record in effect scopes it; the trip
where a STOP record is in effect; HORN and BEACON by R174 and R175. -/
def Obligations.ClearsAndRetirements : Prop :=
  (∀ (s : State) (c : Code), let t := s.clearRecord c
     let marked := (s.definition c).pendingMark
     let unmark (u : State) (m : Code) : State := (u.setDef m { u.definition m with pendingMark := false }).overflowSample
     (marked = true → t = unmark s c) ∧
     (marked = false → s.table.find c = none → t = s) ∧
     (∀ x, marked = false → s.table.find c = some x →
       (x.state = .activeUnack →
         t = { s with table := s.table.modify c fun y => { y with state := .clearedUnack, shelve := none } }) ∧
       (x.state = .activeAck ∨ x.state = .shelved → t = s.retireRecord c) ∧ (x.state = .clearedUnack → t = s)) ∧
     settle (s, [.tableClear c]) = settle (t, [.deliver]) ∧
     settle (s, [.tableRaise c]) = settle (s.raiseRecord c, [.deliver])) ∧
  (∀ (s : State) (c : Code), let t := s.retireRecord c
     let u : State := { s with table := s.table.remove c }
     (c = .tableOverflow ∨ (∀ m, (s.definition m).pendingMark = false) → t = u) ∧
     (∀ m, c ≠ .tableOverflow → m ≠ .tableOverflow → (s.definition m).pendingMark = true →
       (∀ e, e.num < m.num → (s.definition e).pendingMark = false) →
       let v := (u.setDef m { u.definition m with pendingMark := false }).overflowSample
       let d := v.definition m
       let seq := if 4294967295 ≤ v.table.sequence then 1 else v.table.sequence + 1
       let fresh : AlarmRecord :=
         ⟨m, .activeUnack, d.cls, d.scope, if d.cls = .derate then some d.cap else none, seq, 0, d.raiseValue, none⟩
       t = ({ v with table := { v.table with
         records := v.table.records ++ [fresh], sequence := seq, silence := false } } : State).setFlag .alarmNew)) ∧
  (∀ (t : AlarmTable) (c : Code), let r := t.remove c
     let codes := t.listing.map AlarmRecord.code
     (c ≠ .tableOverflow →
       r = { t with records := t.records.filter (fun x => decide (x.code ≠ c)), cursor := r.cursor }) ∧
     (c = .tableOverflow → r = { t with overflow := none, cursor := r.cursor }) ∧
     (t.cursor ≠ some c → r.cursor = t.cursor) ∧
     (∀ after, t.cursor = some c → codes = c :: after → c ∉ after → r.cursor = none) ∧
     (∀ before x after, t.cursor = some c → codes = before ++ x :: c :: after → c ∉ before → x ≠ c → r.cursor = some x)) ∧
  (∀ s : State, let t := s.overflowSample
     let d := s.definition .tableOverflow
     let limiting : Prop := ∃ c, (s.definition c).pendingMark = true ∧ (s.definition c).cls ≠ .note
     let flipped (b : Bool) : State := s.setDef .tableOverflow { d with active := b, run := 0, raiseValue := none }
     let seq := if 4294967295 ≤ s.table.sequence then 1 else s.table.sequence + 1
     let changed (f : AlarmRecord → AlarmRecord) (x : AlarmRecord) : AlarmTable := { s.table with overflow := some (f x) }
     (limiting → d.active = true → t = s) ∧ (¬limiting → d.active = false → t = s) ∧
     (limiting → d.active = false →
       (s.table.overflow = none →
         t.defs = (flipped true).defs ∧ t.table = { s.table with
           overflow := some ⟨.tableOverflow, .activeUnack, d.cls, d.scope, if d.cls = .derate then some d.cap else none, seq, 0,
             none, none⟩
           sequence := seq, silence := false } ∧ EventFlag.alarmNew.isIn t.rport.flags = true) ∧
       (∀ x, s.table.overflow = some x → x.state = .clearedUnack →
         t.defs = (flipped true).defs ∧ t.table =
           { changed (fun y => { y with
               state := .activeUnack, recurrence := min 255 (y.recurrence + 1), value := none, seq := seq }) x with
             sequence := seq, silence := false } ∧ EventFlag.alarmNew.isIn t.rport.flags = true) ∧
       (∀ x, s.table.overflow = some x → x.state ≠ .clearedUnack → t = flipped true)) ∧
     (¬limiting → d.active = true →
       (∀ x, s.table.overflow = some x → x.state = .activeUnack →
         t = { flipped false with table := changed (fun y => { y with state := .clearedUnack, shelve := none }) x }) ∧
       (∀ x, s.table.overflow = some x → x.state = .activeAck →
         t = { flipped false with table := s.table.remove .tableOverflow }) ∧
       (∀ x, s.table.overflow = some x → x.state = .clearedUnack → t = flipped false) ∧
       (s.table.overflow = none → t = flipped false))) ∧
  (∀ s : State,
     let set := s.table.formConsequence
     settle (s, [.deliver]) = settle
       ({ s with
         table := { s.table with consequence := set }
         pins := { s.pins with horn := s.table.hornLevel, beacon := s.table.beaconLevel } },
         [.receiveChannel .hoist, .receiveChannel .drag, .receiveChannel .swing, .receiveWalk, .receiveSupervisor])) ∧
  (∀ x : AlarmRecord,
     (x.cls = .note → x.inEffect = false) ∧
     (x.cls = .derate → (x.inEffect = true ↔ x.state = .activeUnack ∨ x.state = .activeAck)) ∧
     (x.cls = .hold ∨ x.cls = .stop →
       (x.state = .activeUnack ∨ x.state = .activeAck ∨ x.state = .clearedUnack → x.inEffect = true))) ∧
  (∀ t : AlarmTable,
     let listing := t.overflow.toList ++ t.records
     let set := t.formConsequence
     (set.trip = true ↔ ∃ x ∈ listing, x.cls = .stop ∧ x.inEffect = true) ∧
     (∀ m, set.hold.get m = true ↔ ∃ x ∈ listing, x.cls = .hold ∧ x.inEffect = true ∧ x.scope.get m = true) ∧
     (∀ m, let limits (x : AlarmRecord) : Prop := x.cls = .derate ∧ x.inEffect = true ∧ x.scope.get m = true
       ((∀ x ∈ listing, ¬limits x) → set.derate.get m = 1000) ∧
       (∀ x ∈ listing, ∀ k, limits x → x.cap = some k → set.derate.get m ≤ k) ∧
       ∀ x ∈ listing, ∀ k, limits x → x.cap = some k → k ≤ 1000 →
         (∀ y ∈ listing, ∀ j, limits y → y.cap = some j → k ≤ j) → set.derate.get m = k) ∧
     (t.hornLevel = true ↔ (∃ x ∈ listing, x.state = .activeUnack ∨ x.state = .clearedUnack) ∧ t.silence = false) ∧
     (t.beaconLevel = true ↔ ∃ x ∈ listing, (x.cls = .derate ∨ x.cls = .hold ∨ x.cls = .stop) ∧ x.inEffect = true))

/-- ACK by the record's state: ACTIVE_UNACK goes to ACTIVE_ACK and CLEARED_UNACK retires, each ending with the consequence set
delivered; ACTIVE_ACK and SHELVED do not change; a code that is none or has no record is NO_SUCH. ACK_ALL acknowledges the
records present, in list order, as one event, and counts those acknowledged and those retired (R164, R165); that it counts every
record present that is gone, the overflow record retired by its own clear too, is assumption log 11 (DEDUCED). What a
retirement does is in Obligations.ClearsAndRetirements (R154, R163). SHELVE by
its checks (NO_SUCH, then STATE for a HOLD or STOP record, then STATE for one not active) sets a record to SHELVED with its
timer at the minutes taken, 1 to 240. UNSHELVE and the shelve timer's expiry bring a SHELVED record back to ACTIVE_UNACK with
the timer stopped and the silence flag clear, and only the expiry sets ALARM_NEW (R166, R167). -/
def Obligations.AcknowledgingAndShelving : Prop :=
  (∀ (s : State) (h : Header), let r := s.receiveFrame
     (s.takesFrame h 1 → ∀ code : Byte,
       let done := exec (.ack h code) s
       (Code.ofNum code.toNat = none ∨ (∃ c, Code.ofNum code.toNat = some c ∧ r.table.find c = none) →
         done = .next (r.answer h 0x44#8 .noSuch [])) ∧
       ∀ c x, Code.ofNum code.toNat = some c → r.table.find c = some x → x.code = c →
         (x.state = .activeUnack →
           done =
             .next ((settle
               ({ r with table := r.table.modify c fun y => { y with state := .activeAck, shelve := none } },
                 [.deliver])).answer h 0x44#8 .ok [])) ∧
         (x.state = .clearedUnack → done = .next ((settle (r.retireRecord c, [.deliver])).answer h 0x44#8 .ok [])) ∧
         (x.state = .activeAck ∨ x.state = .shelved → done = .next (r.answer h 0x44#8 .ok []))) ∧
     (s.takesFrame h 0 →
       let present := r.table.listing.map AlarmRecord.code
       let t := present.foldl (fun u c => u.ackRecord c) r
       exec (.ackAll h) s =
         .next ((settle (t, [.deliver])).answer h 0x45#8 .ok
           [byteOf (r.table.listing.filter fun x => decide (x.state = .activeUnack)).length,
             byteOf (present.filter fun c => (t.table.find c).isNone).length]))) ∧
  (∀ (s : State) (c : Code), let t := s.ackRecord c
     (s.table.find c = none → t = s) ∧
     ∀ x, s.table.find c = some x →
       (x.state = .activeUnack →
         t = { s with table := s.table.modify c fun y => { y with state := .activeAck, shelve := none } }) ∧
       (x.state = .clearedUnack → t = s.retireRecord c) ∧ (x.state = .activeAck ∨ x.state = .shelved → t = s)) ∧
  (∀ (s : State) (h : Header) (code : Byte), let r := s.receiveFrame
     let none' (t : State) : Prop :=
       Code.ofNum code.toNat = none ∨ ∃ c, Code.ofNum code.toNat = some c ∧ t.table.find c = none
     let back (t : State) (c : Code) : State :=
       { t with table := { t.table.modify c (fun y => { y with state := .activeUnack, shelve := none }) with silence := false } }
     (s.takesFrame h 2 → ∀ minutes : Byte,
       let done := exec (.shelve h code minutes) s
       let m := if minutes.toNat = 0 then 1 else if 240 < minutes.toNat then 240 else minutes.toNat
       (none' r → done = .next (r.answer h 0x46#8 .noSuch [])) ∧
       ∀ c x, Code.ofNum code.toNat = some c → r.table.find c = some x → x.code = c →
         (x.cls = .hold ∨ x.cls = .stop ∨ x.state = .clearedUnack ∨ x.state = .shelved →
           done = .next (r.answer h 0x46#8 .state [])) ∧
         (x.cls = .note ∨ x.cls = .derate → x.state = .activeUnack ∨ x.state = .activeAck →
           done =
             .next ((settle
               ({ r with table := r.table.modify c fun y =>
                 { y with state := .shelved, shelve := some ⟨m * 60000, m * 60000⟩ } }, [.deliver])).answer h 0x46#8
               (if m = minutes.toNat then .ok else .okClamped) [byteOf m]))) ∧
     (s.takesFrame h 1 →
       let done := exec (.unshelve h code) s
       (none' r → done = .next (r.answer h 0x47#8 .noSuch [])) ∧
       ∀ c x, Code.ofNum code.toNat = some c → r.table.find c = some x → x.code = c →
         (x.state ≠ .shelved → done = .next (r.answer h 0x47#8 .state [])) ∧
         (x.state = .shelved → done = .next ((settle (back r c, [.deliver])).answer h 0x47#8 .ok []))) ∧
     (s.inReset = false →
       let done := exec (.shelveTimerExpiry code) s
       (none' s → done = .next s) ∧
       ∀ c x, Code.ofNum code.toNat = some c → s.table.find c = some x → x.code = c →
         (x.state ≠ .shelved → done = .next s) ∧
         (x.state = .shelved → done = .next (settle ((back s c).setFlag .alarmNew, [.deliver])))))

/-- SILENCE sets the silence flag and turns HORN off; ALARM_LIST_FIRST and ALARM_LIST_NEXT return up to twelve codes, from the
head or from after the cursor, with their number and the number in the table, and leave the cursor on the last one returned
(R171, R174). -/
def Obligations.SilenceAndListing : Prop :=
  ∀ (s : State) (h : Header), s.takesFrame h 0 →
    let r := s.receiveFrame
    let codes := r.table.listing.map AlarmRecord.code
    let listed (x : List Code) (cursor : Option Code) (code : Byte) : State :=
      ({ r with table := { r.table with cursor := cursor } } : State).answer h code .ok
        ([byteOf x.length, byteOf codes.length] ++ x.map fun c => byteOf c.num)
    exec (.silence h) s =
      .next (({ r with
        table := { r.table with silence := true }, pins := { r.pins with horn := false } } : State).answer h 0x48#8 .ok []) ∧
    (codes = [] → exec (.alarmListFirst h) s = .next (listed [] none 0x49#8)) ∧
    (codes ≠ [] → exec (.alarmListFirst h) s = .next (listed (codes.take 12) (codes.take 12).getLast? 0x49#8)) ∧
    (r.table.cursor = none → codes ≠ [] →
      exec (.alarmListNext h) s = .next (listed (codes.take 12) (codes.take 12).getLast? 0x4A#8)) ∧
    (r.table.cursor = none → codes = [] → exec (.alarmListNext h) s = .next (listed [] none 0x4A#8)) ∧
    (∀ before c after, r.table.cursor = some c → codes = before ++ c :: after → c ∉ before →
      (after = [] → exec (.alarmListNext h) s = .next (listed [] (some c) 0x4A#8)) ∧
      (after ≠ [] → exec (.alarmListNext h) s = .next (listed (after.take 12) (after.take 12).getLast? 0x4A#8)))

/-! ## Sensing (chapter 1) and the external inputs -/

/-- An edge of a rope encoder moves that drum count by one, wrapping at 32 bits, an edge of the swing encoder the swing count,
wrapping at SWING_CPT, and a change of both channels neither; nothing else changes, in every state of the axis (R2, R7). The
swing index mark: the count is captured; an unreferenced axis without an active ENCODER_FAULT_S becomes referenced at
SWING_INDEX_ANGLE, sets REFERENCED and re-forms every hold source set; every other axis keeps its state and angle (R8, R80).
The inclinometer: a whole frame of six bytes with a good CRC, received between frames, is an accepted sample: pitch and roll
clamped to ±3000, the stale mark cleared and its timer restarted, then INCLINOMETER_STALE false, TUB_ROLL and TUB_PITCH
sampled; one with a bad CRC is discarded. Byte by byte: between frames 0x96 begins one and another byte is ignored; in one
with fewer than five bytes a byte is kept; the sixth ends it, accepted or discarded by its CRC; and bytes received in two
parts act as the same bytes received at once, so that a frame may be split over receptions. A gap over 5 ms discards the frame
in progress. The staleness timer's expiry sets the stale mark, restarts, and samples INCLINOMETER_STALE true (R14, R15, R199).
The model's choice: the channels re-form in the order hoist, drag, swing (assumption log 24). -/
def Obligations.EncodersAndInclinometer : Prop :=
  ((∀ s : State, s.inReset = false →
      (∀ q : Rope, let x := s.rope q
        exec (.ropeEncoderEdge q .up) s = .next (s.setRope q { x with count := x.count + 1#32 }) ∧
        exec (.ropeEncoderEdge q .down) s = .next (s.setRope q { x with count := x.count - 1#32 }) ∧
        exec (.ropeEncoderEdge q .bothChannels) s = .next s) ∧
      (let x := s.asu.swing
        let counted (n : Nat) : State := { s with asu := { s.asu with swing := { x with count := n } } }
        (x.count < s.cfg .swingCpt →
          exec (.swingEncoderEdge .up) s =
            .next (counted (if x.count + 1 = s.cfg .swingCpt then 0 else x.count + 1)) ∧
          exec (.swingEncoderEdge .down) s =
            .next (counted (if x.count = 0 then s.cfg .swingCpt - 1 else x.count - 1))) ∧
        exec (.swingEncoderEdge .bothChannels) s = .next s)) ∧
   (∀ s : State, s.inReset = false →
      let x := s.asu.swing
      let fault := (s.definition (.encoderFault .swing)).active
      (x.referenced = true ∨ fault = true →
        exec .swingIndexMark s = .next { s with asu := { s.asu with swing := { x with indexCount := x.count } } }) ∧
      (x.referenced = false → fault = false →
        exec .swingIndexMark s =
          .next (settle
            (({ s with asu := { s.asu with swing :=
                ⟨x.count, x.count, BitVec.ofNat 12 (s.cfg .swingIndexAngle), true⟩ } } : State).setFlag .referenced,
              [.reformChannel .hoist, .reformChannel .drag, .reformChannel .swing]))))) ∧
  (∀ s : State, s.inReset = false →
     let timer : Timer := ⟨s.cfg .tiltStale, s.cfg .tiltStale⟩
     let clamp (v : Int) : Int := if v < -3000 then -3000 else if 3000 < v then 3000 else v
     let holding (frame : List Byte) : State := { s with asu := { s.asu with tiltFrame := frame } }
     let accepted (p1 p0 r1 r0 : Byte) : State :=
       let pitch := clamp (join16 p1 p0).toInt
       let roll := clamp (join16 r1 r0).toInt
       settle
         ({ s with asu := { s.asu with
             pitch := pitch, roll := roll, stale := false, staleTimer := some timer, tiltFrame := [] } },
           [.sample .inclinometerStale false none,
             .sample .tubRoll (decide (s.cfg .rollLimit < roll.natAbs)) (some roll),
             .sample .tubPitch (decide (s.cfg .pitchLimit < pitch.natAbs)) (some pitch)])
     (∀ p1 p0 r1 r0 crc : Byte, s.asu.tiltFrame = [] →
       let frame := [0x96#8, p1, p0, r1, r0]
       (crc = crc8 frame → exec (.inclinometerFrame (frame ++ [crc])) s = .next (accepted p1 p0 r1 r0)) ∧
       (crc ≠ crc8 frame → exec (.inclinometerFrame (frame ++ [crc])) s = .next s)) ∧
     (∀ x : Byte, let one := exec (.inclinometerFrame [x]) s
       (s.asu.tiltFrame = [] → x ≠ 0x96#8 → one = .next s) ∧
       (s.asu.tiltFrame = [] → x = 0x96#8 → one = .next (holding [x])) ∧
       (s.asu.tiltFrame ≠ [] → s.asu.tiltFrame.length < 5 → one = .next (holding (s.asu.tiltFrame ++ [x]))) ∧
       (∀ sync p1 p0 r1 r0 : Byte, s.asu.tiltFrame = [sync, p1, p0, r1, r0] →
         (x = crc8 [sync, p1, p0, r1, r0] → one = .next (accepted p1 p0 r1 r0)) ∧
         (x ≠ crc8 [sync, p1, p0, r1, r0] → one = .next (holding [])))) ∧
     exec (.inclinometerFrame []) s = .next s ∧
     (∀ (first more : List Byte) (t : State), exec (.inclinometerFrame first) s = .next t →
       t.inReset = false ∧ exec (.inclinometerFrame (first ++ more)) s = exec (.inclinometerFrame more) t) ∧
     (∀ gap : Nat,
       (5000 < gap → exec (.inclinometerFrameGap gap) s = .next { s with asu := { s.asu with tiltFrame := [] } }) ∧
       (gap ≤ 5000 → exec (.inclinometerFrameGap gap) s = .next s)) ∧
     (s.asu.staleTimer ≠ none →
       exec .stalenessTimerExpiry s =
         .next (settle
           ({ s with asu := { s.asu with stale := true, staleTimer := some timer } }, [.sample .inclinometerStale true none]))) ∧
     (s.asu.staleTimer = none → exec .stalenessTimerExpiry s = .next s))

/-- The cam: a tooth edge or index passage whose pulse is shorter than the CAM_FILTER in force when it began is ignored. A
counted edge moves teeth by one modulo 64, and a reverse edge from 1 to 0 is a reverse park arrival. An index passage sets teeth
to 0 forward and 63 in reverse and references the cam; a forward passage is a park arrival, and on a referenced cam samples
CAM_SYNC, true with the count before it unless that was 63 (R11, R12, R104). The model's: CAM_SYNC is sampled before the park
arrival of the same passage (assumption log 9, DEDUCED), and the filter in force when a pulse began is found by the number of
CAM_FILTER writes taken since, from the values kept before each (assumption log 18, DESIGN CHOICE). -/
def Obligations.CamIsCounted : Prop :=
  ∀ (s : State) (p : Pulse), s.inReset = false →
    let values := s.cfg .camFilter :: s.asu.oldFilters
    let filter := values.getD (min p.writesSince s.asu.oldFilters.length) 0
    let needed := match filter with
      | 0 => 0
      | 1 => 500
      | 2 => 2000
      | _ => 8000
    let t := s.asu.teeth
    let at' (x : Teeth) : State := { s with asu := { s.asu with teeth := x } }
    let passed (x : Teeth) : State :=
      let u : State := { s with asu := { s.asu with teeth := x, camReferenced := true } }
      if s.asu.camReferenced then u else u.setFlag .referenced
    (p.stood < needed → ∀ d, exec (.camToothEdge d p) s = .next s ∧ exec (.camIndexPassage d p) s = .next s) ∧
    (needed ≤ p.stood →
      exec (.camToothEdge .forward p) s = .next (at' (t + 1#6)) ∧
      (t ≠ 1#6 → exec (.camToothEdge .reverse p) s = .next (at' (t - 1#6))) ∧
      (t = 1#6 → exec (.camToothEdge .reverse p) s = .next (settle (at' 0#6, [.parkArrival .reverse]))) ∧
      exec (.camIndexPassage .reverse p) s = .next (passed 63#6) ∧
      (s.asu.camReferenced = false →
        exec (.camIndexPassage .forward p) s = .next (settle (passed 0#6, [.parkArrival .forward]))) ∧
      (s.asu.camReferenced = true →
        exec (.camIndexPassage .forward p) s =
          .next (settle
            (passed 0#6,
              [.sample .camSync (decide (t ≠ 63#6)) (some t.toNat), .parkArrival .forward]))))

/-- A sample arrival restarts its timer at AXIS_PERIOD, then samples the fault line, forms the position with its range
condition, evaluates the envelope and tests a pending commit, in that order (R1). The position of a referenced rope axis:
count difference times scale over 10000, truncated toward zero, plus the reference payout, saturated to 0 to 20000, with the
range condition true outside that range and carrying the unsaturated value clamped to ±32767; an unreferenced axis holds its
payout and samples false (R3, R4). The angle of a referenced swing axis: the count difference modulo SWING_CPT times 4096 over
SWING_CPT, truncated, plus SWING_INDEX_ANGLE modulo 4096; an unreferenced one holds its angle (R9). SWING_IN_NOGO is then
sampled, true where the referenced axis stands at a NOGO angle, carrying the angle (R25), and ENVELOPE_EXCURSION with all axes
referenced, true outside the governing sector's envelope, carrying the sector (R150). An external input sample restarts its
10 ms timer and samples X0 to X7, each true when its line stands at the level its definition's polarity names (R151). The
model's choices (assumption log 20, DESIGN CHOICE): SWING_IN_NOGO before ENVELOPE_EXCURSION, and X0 first. -/
def Obligations.SamplesArrive : Prop :=
  (∀ (s : State) (a : Axis) (line : Bool), s.inReset = false →
     ∃ u, exec (.axisSampleArrival a line) s =
         .next (settle (u, [.sample (.encoderFault a) line none, .formPosition a, .envelopeSample, .commitTest])) ∧
       u = { s with asu := u.asu, lines := u.lines } ∧
       u.asu = { s.asu with sampleTimers := u.asu.sampleTimers } ∧
       (∀ b, u.asu.sampleTimers.get b =
         if b = a then some ⟨s.cfg .axisPeriod, s.cfg .axisPeriod⟩ else s.asu.sampleTimers.get b) ∧
       u.lines.inputs = s.lines.inputs ∧ (∀ b, u.lines.fault.get b = if b = a then line else s.lines.fault.get b)) ∧
  (∀ (s : State) (q : Rope),
     let x := s.rope q
     let scale := s.cfg (match q with | .hoist => .hoistScale | .drag => .dragScale)
     let code : Code := match q with | .hoist => .hoistRange | .drag => .dragRange
     let v : Int := ((x.count - x.refCount).toInt * scale).tdiv 10000 + x.refPayout
     let carried : Int := if v < -32767 then -32767 else if 32767 < v then 32767 else v
     (x.referenced = false → settle (s, [.formPosition q.axis]) = settle (s, [.sample code false (some x.payout)])) ∧
     (x.referenced = true → 0 ≤ v → v ≤ 20000 →
       settle (s, [.formPosition q.axis]) =
         settle (s.setRope q { x with payout := v.toNat }, [.sample code false (some v)])) ∧
     (x.referenced = true → v < 0 →
       settle (s, [.formPosition q.axis]) =
         settle (s.setRope q { x with payout := 0 }, [.sample code true (some carried)])) ∧
     (x.referenced = true → 20000 < v →
       settle (s, [.formPosition q.axis]) =
         settle (s.setRope q { x with payout := 20000 }, [.sample code true (some carried)]))) ∧
  (∀ s : State,
     let x := s.asu.swing
     let cpt := s.cfg .swingCpt
     let offset := (((x.count : Int) - x.indexCount) % cpt).toNat
     let nogo := s.banks.active.isNogo x.angle
     let inside := s.banks.active.containsAt x.angle s.asu.drag.payout s.asu.hoist.payout
     let all := s.asu.hoist.referenced && s.asu.drag.referenced && x.referenced
     (x.referenced = true →
       settle (s, [.formPosition .swing]) =
         settle ({ s with asu := { s.asu with swing :=
           { x with angle := BitVec.ofNat 12 (offset * 4096 / cpt + s.cfg .swingIndexAngle) } } }, [.nogoSample])) ∧
     (x.referenced = false → settle (s, [.formPosition .swing]) = settle (s, [.nogoSample])) ∧
     settle (s, [.nogoSample]) = settle (s, [.sample .swingInNogo (x.referenced && nogo) (some x.angle.toNat)]) ∧
     (all = true →
       settle (s, [.envelopeSample]) =
         settle (s, [.sample .envelopeExcursion (!inside) (some (s.banks.active.governingSector x.angle).val)])) ∧
     (all = false → settle (s, [.envelopeSample]) = s)) ∧
  (∀ (s : State) (levels : Byte), s.inReset = false →
     let raw (i : Fin 8) : Bool :=
       match (s.definition (.input i)).polarity with
       | some .activeLow => !levels.getLsbD i.val
       | _ => levels.getLsbD i.val
     exec (.externalInputSample levels) s =
       .next (settle
         ({ s with inputTimer := some ⟨10, 10⟩, lines := { s.lines with inputs := levels } },
           [.sample (.input 0) (raw 0) none, .sample (.input 1) (raw 1) none, .sample (.input 2) (raw 2) none,
             .sample (.input 3) (raw 3) none, .sample (.input 4) (raw 4) none, .sample (.input 5) (raw 5) none,
             .sample (.input 6) (raw 6) none, .sample (.input 7) (raw 7) none])))

/-! ## Timers of the channels, the walk and the link -/

/-- The expiries of a hoist, drag or swing channel's timers: the open timer in OPENING closes it with cause OPEN_FAILED and
that flag, the demand timer makes the demand 0 and sets the expired mark with DEMAND_LOST true, the rest timer sets the brake;
a timer that is not running does nothing (R74, R76, R82, R87). The expiries of the walk channel's timers and of the link
watchdog: the open timer ends STEP and MAINT in IDLE and RECOVER and HALT in STOPPED, with cause and flag OPEN_FAILED; the
rest timer sets the brake; the demand timer makes the demand 0; the watchdog becomes LAPSED and samples LINK_LOST true; a
timer that is not running does nothing (R108, R115, R117, R121, R182). The model's choice: the DEMAND_LOST sample of a closing
acts before the change of state is handed on (assumption log 27). -/
def Obligations.TimersRunOut : Prop :=
  (∀ (s : State) (a : Axis), s.inReset = false →
     let c := s.channels.get a
     (c.state = .opening → c.openTimer ≠ none →
       exec (.openTimerExpiry a) s =
         .next (settle
           ((s.setChannel a
             { c with
               state := .closed, reference := 0, permitted := 0, enable := false, brake := .apply, demand := 0
               expired := false, demandTimer := none, openTimer := none, restTimer := none
               lastCause := some .openFailed }).setFlag .openFailed,
             [.sample (.demandLost a) false none, .channelChanged a]))) ∧
     (c.state ≠ .opening ∨ c.openTimer = none → exec (.openTimerExpiry a) s = .next s) ∧
     (c.demandTimer ≠ none →
       exec (.demandTimerExpiry a) s =
         .next (settle
           (s.setChannel a { c with demand := 0, expired := true, demandTimer := none },
             [.sample (.demandLost a) true none]))) ∧
     (c.demandTimer = none → exec (.demandTimerExpiry a) s = .next s) ∧
     (c.restTimer ≠ none →
       exec (.restTimerExpiry a.motion) s = .next (s.setChannel a { c with restTimer := none, brake := .apply })) ∧
     (c.restTimer = none → exec (.restTimerExpiry a.motion) s = .next s)) ∧
  (∀ s : State, s.inReset = false →
     let w := s.walk
     (w.state = .opening → w.openTimer ≠ none → w.target = some .step ∨ w.target = some .maint →
       exec .walkOpenTimerExpiry s =
         .next (settle ((s.setWalk (w.idledBy .openFailed)).setFlag .openFailed, [.walkChanged]))) ∧
     (w.state = .opening → w.openTimer ≠ none → w.target = some .recover ∨ w.target = some .halt →
       exec .walkOpenTimerExpiry s =
         .next (settle
           ((((s.setFlag .openFailed).setWalk
             { w with
               state := .stopped, target := none, run := none, closing := none, permitted := 0, reference := 0
               enable := false, brake := .apply, openTimer := none, restTimer := none
               lastCause := some .openFailed }).setFlag .walkStopped), [.walkChanged]))) ∧
     (w.state ≠ .opening ∨ w.openTimer = none → exec .walkOpenTimerExpiry s = .next s) ∧
     (w.restTimer ≠ none →
       exec (.restTimerExpiry .walk) s = .next { s with walk := { w with restTimer := none, brake := .apply } }) ∧
     (w.restTimer = none → exec (.restTimerExpiry .walk) s = .next s) ∧
     (w.demandTimer ≠ none →
       exec .walkDemandTimerExpiry s = .next { s with walk := { w with demand := 0, demandTimer := none } }) ∧
     (w.demandTimer = none → exec .walkDemandTimerExpiry s = .next s) ∧
     (s.sup.watchdog ≠ none →
       exec .linkWatchdogExpiry s =
         .next (settle
           ({ s with sup := { s.sup with lapsed := true, watchdog := none } }, [.sample .linkLost true none]))) ∧
     (s.sup.watchdog = none → exec .linkWatchdogExpiry s = .next s))


/-! ## Deliveries -/

/-- No delivery inside an event writes a setting, STAGED, the HOLD_ALL flag, an input line, the watchdog, a count of an encoder or
of the cam, the inclinometer, the response buffer, the mask or the snapshot, and none clears an event flag. -/
def Obligations.DeliveriesLeaveTheRestAlone : Prop :=
  ∀ (s : State) (acts : List Act), let t := settle (s, acts)
    t.settings = s.settings ∧ t.banks.staged = s.banks.staged ∧ t.holdAll = s.holdAll ∧ t.nextLegId = s.nextLegId ∧
      t.lines = s.lines ∧ t.inputTimer = s.inputTimer ∧ t.resetting = s.resetting ∧ t.pending = s.pending ∧
      t.sup.cause = s.sup.cause ∧ t.sup.lapsed = s.sup.lapsed ∧ t.sup.watchdog = s.sup.watchdog ∧
      t.rport.buffer = s.rport.buffer ∧ t.rport.previous = s.rport.previous ∧ t.rport.sending = s.rport.sending ∧
      t.rport.mask = s.rport.mask ∧ t.rport.snapshot = s.rport.snapshot ∧
      (∀ f : EventFlag, f.isIn s.rport.flags = true → f.isIn t.rport.flags = true) ∧
      (∀ q, (t.rope q).count = (s.rope q).count ∧ (t.rope q).refCount = (s.rope q).refCount ∧
        (t.rope q).refPayout = (s.rope q).refPayout) ∧
      t.asu.swing.count = s.asu.swing.count ∧ t.asu.swing.indexCount = s.asu.swing.indexCount ∧
      t.asu.teeth = s.asu.teeth ∧ t.asu.camReferenced = s.asu.camReferenced ∧ t.asu.pitch = s.asu.pitch ∧
      t.asu.roll = s.asu.roll ∧ t.asu.stale = s.asu.stale ∧ t.asu.tiltFrame = s.asu.tiltFrame ∧
      (∀ c, (t.definition c).cls = (s.definition c).cls ∧ (t.definition c).scope = (s.definition c).scope ∧
        (t.definition c).persistence = (s.definition c).persistence ∧ (t.definition c).cap = (s.definition c).cap ∧
        (t.definition c).polarity = (s.definition c).polarity)

/-- Up to twelve deliveries handed on by an event, with all that they hand on in their turn, come to an end within the model's
bound from every state, so that no delivery is ever cut off (assumption log 4). -/
def Obligations.DeliveriesComeToAnEnd : Prop :=
  ∀ (s : State) (acts : List Act), acts.length ≤ 12 → leftover Config.cascadeFuel acts s = []

/-! ## The permission arithmetic and the sector map (chapters 2, 3 and 5) -/

/-- The margins, the taper and the ramp. Hoist margins: OUT Hmax - H, IN H - Hmin. Drag margins: the plain Dmax - D and D - Dmin,
or the hoist room at the look-ahead payout where that is less than here and less than the plain one. All are 0 where a curve is
unset (R36, R38, R39, R40). The limiting terms: the tapers of these margins, and for the swing the braking curve at the blocking
distance, 1000 at most, 1000 at a NOGO angle or with no blocked angle ahead, 0 where the curve is unset (R42, R50). The taper
is 0 at no margin, 1000 from the band on, lies from the creep to 999 between, and does not fall as the margin grows (R41).
The ramp by the rows of R78: a reference whose permitted value is 0 or of the other sign moves toward 0 by the deceleration
step and does not cross it; otherwise it rises by the acceleration step or falls by the deceleration step, not past the
permitted value; its magnitude never exceeds the larger of the two. A curve's value: the first y at or left of the first point,
the last y from the last point on, and between them that of the lowest segment that fits, its quotient truncated toward zero;
none for a point count below 2 (R33, R34). The hoist limits are the ceiling and the floor curve's value at D (R37). -/
def Obligations.MarginsTaperAndRamp : Prop :=
  (∀ s : State,
     let b := s.banks.active
     let sec := b.sectors[b.governingSector s.asu.swing.angle]
     let d := s.asu.drag.payout
     let h := s.asu.hoist.payout
     let look := s.cfg .lookaheadD
     let room (lo hi : Int) : Int := min (hi - h) (h - lo)
     let coupled (plain here there : Int) : Int := if there < here then min plain there else plain
     (b.hoistLimits sec d = none → s.hoistMargins = ⟨0, 0⟩ ∧ s.dragMargins = ⟨0, 0⟩) ∧
     (∀ lo hi, b.hoistLimits sec d = some (lo, hi) → s.hoistMargins = ⟨hi - h, h - lo⟩ ∧
       (∀ lo' hi', b.hoistLimits sec (min 20000 (d + look)) = some (lo', hi') →
         s.dragMargins.pos = coupled ((sec.dmax : Int) - d) (room lo hi) (room lo' hi')) ∧
       (∀ lo' hi', b.hoistLimits sec (min 20000 (d - look)) = some (lo', hi') →
         s.dragMargins.neg = coupled ((d : Int) - sec.dmin) (room lo hi) (room lo' hi'))) ∧
     (let th := taper (s.cfg .taperH) (s.cfg .creepH)
       let td := taper (s.cfg .taperD) (s.cfg .creepD)
       s.limitingTerms .hoist = ⟨th s.hoistMargins.pos, th s.hoistMargins.neg⟩ ∧
       s.limitingTerms .drag = ⟨td s.dragMargins.pos, td s.dragMargins.neg⟩) ∧
     (let nogo := b.isNogo s.asu.swing.angle
       let braking (distance : Option Nat) (term : Int) : Prop := match distance with
         | none => term = 1000
         | some k => match b.curves[b.brake].value k with
           | none => term = 0
           | some v => term = min v 1000
       (nogo = true → s.limitingTerms .swing = ⟨1000, 1000⟩) ∧
       (nogo = false → braking (b.distanceClockwise s.asu.swing.angle d h) (s.limitingTerms .swing).pos ∧
         braking (b.distanceCounter s.asu.swing.angle d h) (s.limitingTerms .swing).neg))) ∧
  (∀ accel decel r p : Int, 0 ≤ accel → 0 ≤ decel →
    let n := ramp accel decel r p
    (0 ≤ r → p ≤ 0 → p = 0 ∨ r ≠ 0 → n = max 0 (r - decel)) ∧ (r ≤ 0 → 0 ≤ p → p = 0 ∨ r ≠ 0 → n = min 0 (r + decel)) ∧
      (0 ≤ r → r < p → n = min p (r + accel)) ∧ (0 < p → p < r → n = max p (r - decel)) ∧
      (r ≤ 0 → p < r → n = max p (r - accel)) ∧ (p < 0 → r < p → n = min p (r + decel)) ∧ (p = r → n = r) ∧
      n.natAbs ≤ max p.natAbs r.natAbs) ∧
  (∀ (b c : Nat) (m : Int), 1 ≤ b → c < 1000 →
    (m ≤ 0 → taper b c m = 0) ∧ ((b : Int) ≤ m → taper b c m = 1000) ∧
      (0 < m → m < b → (c : Int) ≤ taper b c m ∧ taper b c m ≤ 999 ∧
        taper b c m = c + ((1000 - (c : Int)) * m) / b) ∧
      (∀ m', m ≤ m' → taper b c m ≤ taper b c m')) ∧
  (∀ (c : Curve) (x : Nat),
    let points := c.slots.toList.take c.count
    let fits (i : Nat) (p q : Point) : Prop := points[i]? = some p ∧ points[i + 1]? = some q ∧ p.x ≤ x ∧ x < q.x
    (c.count < 2 → c.value x = none) ∧
    (2 ≤ c.count → ∀ first last : Point, points.head? = some first → points.getLast? = some last →
      (x ≤ first.x → c.value x = some (first.y : Int)) ∧
      (first.x < x → last.x ≤ x → c.value x = some (last.y : Int)) ∧
      (first.x < x → x < last.x → ∃ i p q, fits i p q ∧ (∀ j p' q', j < i → ¬fits j p' q') ∧
        c.value x = some (p.y + (((q.y : Int) - p.y) * ((x : Int) - p.x)).tdiv ((q.x : Int) - p.x))))) ∧
  (∀ (b : Bank) (sec : Sector) (d : Nat) (lo hi : Int),
    b.hoistLimits sec d = some (lo, hi) ↔
      b.curves[sec.ceiling].value d = some lo ∧ b.curves[sec.floor].value d = some hi)

/-- A window covers an angle when it is enabled and the angle AND its mask equals its base; so mask 0 with base 0 covers every
angle, mask 4095 the base alone, a base with a bit outside its mask none, and a disabled window none. -/
def Obligations.WindowsCoverTheirAngles : Prop :=
  ∀ (w : Window) (a : Angle),
    (w.covers a = true ↔ w.enable = true ∧ a &&& w.mask = w.base) ∧
    (w.enable = true → w.mask = 0#12 → w.base = 0#12 → w.covers a = true) ∧
    (w.enable = true → w.mask = 4095#12 → (w.covers a = true ↔ a = w.base)) ∧
    (w.base &&& ~~~w.mask ≠ 0#12 → w.covers a = false) ∧ (w.enable = false → w.covers a = false)

/-- The sector map's answers: the governing window is the lowest-numbered enabled window that covers the angle, and names the
governing sector, SRD where there is none; an angle is NOGO when some enabled NOGO window covers it, and blocked when it is NOGO
or outside its governing sector's envelope. That envelope contains (D, H) where Dmin ≤ D ≤ Dmax and Hmin ≤ H ≤ Hmax, every
bound inclusive, Hmin the ceiling curve's and Hmax the floor curve's value at D, and contains nothing with either curve unset.
A blocking distance is the least from 1 to 4095, in each direction (R23, R24, R26 to R29). -/
def Obligations.TheSectorMapAnswers : Prop :=
  ∀ (b : Bank) (a : Angle) (d h : Nat),
    (∀ i : Fin 16, b.governing a = some i ↔
      (b.windows[i].covers a = true ∧ ∀ j : Fin 16, j.val < i.val → b.windows[j].covers a = false)) ∧
    (b.governing a = none ↔ ∀ i : Fin 16, b.windows[i].covers a = false) ∧
    (∀ i : Fin 16, b.governing a = some i → (b.governingSector a).val = b.windows[i].sector.val ∧
      (b.walkAllowed a = true ↔ b.windows[i].walk = true)) ∧
    (b.governing a = none → (b.governingSector a).val = 8 ∧ b.walkAllowed a = false) ∧
    (b.isNogo a = true ↔ ∃ i : Fin 16, b.windows[i].covers a = true ∧ b.windows[i].nogo = true) ∧
    (b.isBlocked d h a = true ↔ b.isNogo a = true ∨ b.containsAt a d h = false) ∧
    (let sec := b.sectors[b.governingSector a]
     (b.containsAt a d h = true ↔
       ∃ lo hi : Int, b.curves[sec.ceiling].value d = some lo ∧ b.curves[sec.floor].value d = some hi ∧
         sec.dmin ≤ d ∧ d ≤ sec.dmax ∧ lo ≤ h ∧ (h : Int) ≤ hi) ∧
     (b.curves[sec.ceiling].count < 2 ∨ b.curves[sec.floor].count < 2 → b.containsAt a d h = false)) ∧
    (∀ k, b.distanceClockwise a d h = some k ↔
      (1 ≤ k ∧ k ≤ 4095 ∧ b.isBlocked d h (a + BitVec.ofNat 12 k) = true ∧
        ∀ j, 1 ≤ j → j < k → b.isBlocked d h (a + BitVec.ofNat 12 j) = false)) ∧
    (∀ k, b.distanceCounter a d h = some k ↔
      (1 ≤ k ∧ k ≤ 4095 ∧ b.isBlocked d h (a - BitVec.ofNat 12 k) = true ∧
        ∀ j, 1 ≤ j → j < k → b.isBlocked d h (a - BitVec.ofNat 12 j) = false))

/-- At a reference update in RUNNING the permitted value carries the demand's sign, and its magnitude is the least of its terms: in
FOLLOW the demand, the sector cap, the derate term and the limiting term of the demand's direction (R45, R46), for a swing at a
NOGO angle the demand, CREEP_S and the derate term (R47), in MAINT the demand, the creep and the derate term (R48); so it exceeds
none of them, and is never negative in the demand's direction. An expired demand is read as 0; and the new reference is what
the channel hands to its port, with enable on and brake OPEN (R44, R49, R50, R77). -/
def Obligations.PermittedValuesKeepTheirTerms : Prop :=
  ∀ (s : State) (a : Axis), let c := s.channels.get a
    c.state = .running →
    let t := (s.channelUpdate a).1
    let handed := (s.channelUpdate a).2
    let p := (t.channels.get a).permitted
    let d := if c.expired then 0 else c.demand
    let sector := s.banks.active.sector (s.banks.active.governingSector s.asu.swing.angle)
    let cap : Int := match a with | .hoist => sector.hoistCap | .drag => sector.dragCap | .swing => sector.swingCap
    let creep : Int := s.cfg (match a with | .hoist => .creepH | .drag => .creepD | .swing => .creepS)
    let derate : Int := c.derate
    let nogoSwing : Prop := a = .swing ∧ s.banks.active.isNogo s.asu.swing.angle = true
    handed = ⟨(t.channels.get a).reference, true, .release⟩ ∧ (d = 0 → p = 0) ∧
    (0 < d → 0 ≤ p ∧ (c.mode = .maint → p = min d (min creep derate)) ∧
      (c.mode = .follow → ¬nogoSwing → p = min d (min cap (min derate (s.limitingTerms a).pos))) ∧
      (c.mode = .follow → nogoSwing → p = min d (min creep derate))) ∧
    (d < 0 → p ≤ 0 ∧ (c.mode = .maint → p = -(min (-d) (min creep derate))) ∧
      (c.mode = .follow → ¬nogoSwing → p = -(min (-d) (min cap (min derate (s.limitingTerms a).neg)))) ∧
      (c.mode = .follow → nogoSwing → p = -(min (-d) (min creep derate))))

/-- In a bank that has passed validation, and so in ACTIVE from generation 1 on, the ceiling never stands below the floor: at
every drag payout up to 20000 every reachable sector, and so the governing sector of every angle, has both hoist limits, and
Hmin ≤ Hmax (R36, R37, R62). -/
def Obligations.TheEnvelopeNeverCrosses : Prop :=
  (∀ (b : Bank) (i : Fin 9) (d : Nat), b.validate = none → i ∈ b.reachable → d ≤ 20000 →
    ∃ lo hi, b.hoistLimits (b.sector i) d = some (lo, hi) ∧ lo ≤ hi) ∧
  (∀ (s : State) (a : Angle) (d : Nat), s.banksValidated → s.banks.generation ≠ 0 → d ≤ 20000 →
    ∃ lo hi, s.banks.active.hoistLimits (s.banks.active.sector (s.banks.active.governingSector a)) d = some (lo, hi) ∧
      lo ≤ hi)

/-- No reference into a limit: at every reference update in FOLLOW, in RUNNING, PARKING or CLOSING, the reference a hoist or
drag channel hands to its port is toward OUT only with room in the OUT margin and toward IN only with room in the IN margin, and
the swing's is in a direction only where that braking term is not 0 (R38 to R42, R78, R79). The margins and braking terms are
those that Obligations.MarginsTaperAndRamp gives by R38 to R42. -/
def Obligations.NoReferenceIntoALimit : Prop :=
  ∀ (s : State) (a : Axis), let c := s.channels.get a
    c.mode = .follow → c.state = .running ∨ c.state = .parking ∨ c.state = .closing →
    let r := (s.channelUpdate a).2.reference
    match a with
    | .hoist => (0 < r → 0 < s.hoistMargins.pos) ∧ (r < 0 → 0 < s.hoistMargins.neg)
    | .drag => (0 < r → 0 < s.dragMargins.pos) ∧ (r < 0 → 0 < s.dragMargins.neg)
    | .swing => (0 < r → s.brakingTerms.pos ≠ 0) ∧ (r < 0 → s.brakingTerms.neg ≠ 0)

/-! ## What every command and every step keeps -/

/-- The walk channel leaves STEPPING, HALTING, and CLOSING with origin PARK for IDLE only with the cam at park, except when its
port leaves ENABLED or a reset begins; and it leaves STEPPING and HALTING for CLOSING with origin PARK alone (R113, R115, R116,
R119). -/
def Obligations.TheWalkEndsAtPark : Prop :=
  ∀ (i : Instr) (s t : State), exec i s = .next t →
    let moved : Prop := s.walk.state = .stepping ∨ s.walk.state = .halting
    let closingAtPark (w : WalkChannel) : Prop := w.state = .closing ∧ ∃ cause, w.closing = some ⟨.park, cause⟩
    (moved ∨ closingAtPark s.walk → t.walk.state = .idle →
      (t.asu.camReferenced = true ∧ t.asu.teeth = 0#6) ∨ t.ports.walk.state ≠ .enabled ∨ t.resetting ≠ none) ∧
    (moved → t.walk.state = .closing → closingAtPark t.walk)

/-- Every step from a sound state keeps the output lines in agreement: SAFE_RUN high in READY alone, ATTN with a flag set and
unmasked, all four low in a reset; HORN is high exactly where a record, ordinary or overflow, is ACTIVE_UNACK or CLEARED_UNACK
and the silence flag is clear, and BEACON exactly where a DERATE, HOLD or STOP record is in effect (R168, R174, R175, R178,
R184, R192). -/
def Obligations.EveryStepKeepsTheOutputs : Prop :=
  ∀ s t : State, s.sound → step s = .next t → t.outputsAgree ∧
    (let listing := t.table.overflow.toList ++ t.table.records
     (t.pins.horn = true ↔
       (∃ x ∈ listing, x.state = .activeUnack ∨ x.state = .clearedUnack) ∧ t.table.silence = false) ∧
     (t.pins.beacon = true ↔
       ∃ x ∈ listing, (x.cls = .derate ∧ (x.state = .activeUnack ∨ x.state = .activeAck)) ∨
         ((x.cls = .hold ∨ x.cls = .stop) ∧
           (x.state = .activeUnack ∨ x.state = .activeAck ∨ x.state = .clearedUnack))))

/-- Every step from a sound state leaves the consequence set equal to that of the records in effect and in the hands of every
receiver, and a STOP record in effect finds the part TRIPPED (R168, R169, R180). What that set is in terms of the records is
in Obligations.ClearsAndRetirements. -/
def Obligations.EveryStepDeliversTheAlarms : Prop :=
  ∀ s t : State, s.sound → step s = .next t → t.alarmsDelivered

/-- Every step from a sound state keeps the interlocks: a channel that is not CLOSED has its port ENABLED and the part READY, no
channel moves with a hold source present, none is OPENING or RUNNING while the walk steps, halts or stands STOPPED, and while
it steps or halts each is CLOSED or PARKED (R80, R81, R84, R88, R105, R107, R119, R180). -/
def Obligations.EveryStepKeepsTheInterlocks : Prop :=
  ∀ s t : State, s.sound → step s = .next t → t.interlocked ∧
    (t.walk.state = .stepping ∨ t.walk.state = .halting ∨ t.walk.state = .stopped →
      ∀ a, (t.channels.get a).state ≠ .opening ∧ (t.channels.get a).state ≠ .running) ∧
    (t.walk.state = .stepping ∨ t.walk.state = .halting →
      ∀ a, (t.channels.get a).state = .closed ∨ (t.channels.get a).state = .parked)

/-- Every step from a sound state keeps each channel record in agreement with its channel's state: timers, enable, brake
command, reference and permitted value; brake command SET never stands with a reference that is not 0 (R69, R73, R82, R85, R87,
R97, R107, R115). Two of its clauses on the walk rest on the model's choices: that the walk's run is present in OPENING with
every target but MAINT, where R97 lists it there for RECOVER and HALT only (assumption log 12, DEDUCED), and that the walk open
timer runs exactly in OPENING, as no rule says that a halted or closed opening stops it at the entry into CLOSING (assumption
log 34, DESIGN CHOICE). -/
def Obligations.EveryStepKeepsTheChannelRecords : Prop :=
  ∀ s t : State, s.sound → step s = .next t → t.recordsAgree

/-- Every step from a sound state keeps each port sound: the link timer in RESETTING and ENABLED only, nothing outstanding and
the brake watch cleared outside ENABLED, and fewer than three misses in it (R125, R126, R129, R133, R134). -/
def Obligations.EveryStepKeepsThePorts : Prop :=
  ∀ s t : State, s.sound → step s = .next t → t.portsSound

/-- Every step from a sound state keeps every setting, payout, swing count and tilt in its range, every demand, permitted value
and reference within ±1000, and the walk plan at eight legs at most with their ids apart (R4, R7, R14, R49, R75, R78, R99,
R195). -/
def Obligations.EveryStepKeepsTheRanges : Prop :=
  ∀ s t : State, s.sound → step s = .next t → t.sensingInRange ∧ t.speedsInRange ∧ t.planSound

/-- Every step from a sound state keeps the alarm table: at most 32 ordinary records and one per code, no class below its floor,
a code ACTIVE exactly where it is marked or holds a record that is not CLEARED_UNACK, a shelve timer in SHELVED alone, and the
list cursor at start or on a record of the table (R143, R146, R154, R157, R158, R160 to R163, R166, R167, R171, R172). -/
def Obligations.EveryStepKeepsTheTable : Prop :=
  ∀ s t : State, s.sound → step s = .next t → t.tableSound ∧ t.codesAgree

/-- Every step from a sound state keeps the conditions with what they stand for: LINK_LOST with the lapsed watchdog, DEMAND_LOST
with the expired mark, BRAKE_MISMATCH with a port in breach, MAINT_MOTION with a channel open in MAINT, TABLE_OVERFLOW with a
mark on a limiting code (R76, R87, R93, R122, R138, R155, R182). -/
def Obligations.EveryStepKeepsTheConditions : Prop :=
  ∀ s t : State, s.sound → step s = .next t → t.conditionsFollow

/-- Every step from a sound state keeps the banks validated: what the channels obey has passed validation from generation 1 on,
and STAGED has while a commit is pending (R60, R61, R62, R64). -/
def Obligations.EveryStepKeepsTheBanksValidated : Prop :=
  ∀ s t : State, s.sound → step s = .next t → t.banksValidated
end

