-- ==== Sys2Proof/Laws/Arithmetic.lean ====
section
/-!
SUPPORT. Clamping, the ramp's building blocks and the segments of a curve.
-/

namespace Sys2Proof.Machine

/-- A clamped number stands in its range (00_scope, 3.4). -/
theorem clampNat_range {lo hi : Nat} (v : Nat) (h : lo ≤ hi) : lo ≤ clampNat lo hi v ∧ clampNat lo hi v ≤ hi := by
  unfold clampNat; split <;> (try split) <;> omega

theorem clampInt_range {lo hi : Int} (v : Int) (h : lo ≤ hi) : lo ≤ clampInt lo hi v ∧ clampInt lo hi v ≤ hi := by
  unfold clampInt; split <;> (try split) <;> omega

/-- A number already in its range is not clamped. -/
theorem clampNat_inside {lo hi v : Nat} (h : lo ≤ v) (k : v ≤ hi) : clampNat lo hi v = v := by
  unfold clampNat; split <;> (try split) <;> omega

theorem clampInt_inside {lo hi v : Int} (h : lo ≤ v) (k : v ≤ hi) : clampInt lo hi v = v := by
  unfold clampInt; split <;> (try split) <;> omega

/-- A saturated payout is at most 20000 (R4). -/
theorem clampInt_nat_le {hi : Nat} (v : Int) : (clampInt 0 hi v).toNat ≤ hi := by
  have := clampInt_range (lo := 0) (hi := hi) v (by omega); omega

/-- A step toward 0 never crosses it and never grows (R78). -/
theorem towardZero_bounds (r step : Int) (h : 0 ≤ step) :
    (towardZero r step).natAbs ≤ r.natAbs ∧ (0 ≤ r → 0 ≤ towardZero r step) ∧ (r ≤ 0 → towardZero r step ≤ 0) := by
  unfold towardZero magnitude
  split
  · exact ⟨by omega, by omega, by omega⟩
  · split <;> exact ⟨by omega, by omega, by omega⟩

/-- A permitted value carries the sign of its demand (R49). -/
theorem signed_natAbs (d m : Int) : (signed d m).natAbs ≤ m.natAbs := by
  unfold signed; split <;> (try split) <;> omega

/-! ### Curves (R34) -/

/-- Between the first and the last point, the search finds the lowest segment that fits x. -/
theorem segmentSearch_spec (x : Nat) (rest : List Point) (p : Point) (low : p.x ≤ x)
    (high : ∀ l, (p :: rest).getLast? = some l → x < l.x) :
    let fits (i : Nat) (a b : Point) : Prop :=
      (p :: rest)[i]? = some a ∧ (p :: rest)[i + 1]? = some b ∧ a.x ≤ x ∧ x < b.x
    ∃ i a b, fits i a b ∧ (∀ j c d, j < i → ¬fits j c d) ∧ segmentSearch p rest x = segmentValue a b x := by
  induction rest generalizing p with
  | nil => have := high p (by simp); omega
  | cons q more ih =>
    intro fits
    unfold segmentSearch
    by_cases k : p.x ≤ x ∧ x < q.x
    · exact ⟨0, p, q, by simpa [fits] using k, by intro j _ _ hj; omega, by rw [if_pos k]⟩
    · rw [if_neg k]
      have next : q.x ≤ x := by omega
      obtain ⟨i, a, b, found, first, value⟩ := ih q next fun l hl => high l (by simpa using hl)
      refine ⟨i + 1, a, b, by simpa [fits] using found, ?_, value⟩
      intro j c d hj
      cases j with
      | zero =>
        simp only [fits, List.getElem?_cons_zero, List.getElem?_cons_succ]
        rintro ⟨u, v, w⟩; cases u; cases v; exact k w
      | succ j => simpa [fits] using first j c d (by omega)

end Sys2Proof.Machine
end

