-- ==== Sys2Proof/Laws/State.lean ====
section
/-!
SUPPORT. One lemma for each field after each setter, the item of an axis or motion after it is replaced, and the readings of
the settings and definitions after a write.
-/

namespace Sys2Proof.Machine

/-! ### Items by axis and by motion -/

@[simp] theorem PerAxis.get_set_same {α : Type} (p : PerAxis α) (a : Axis) (v : α) : (p.set a v).get a = v := by
  cases a <;> rfl

theorem PerAxis.get_set_other {α : Type} (p : PerAxis α) {a b : Axis} (v : α) (h : b ≠ a) : (p.set a v).get b = p.get b := by
  cases a <;> cases b <;> first | rfl | exact absurd rfl h

theorem PerAxis.get_set {α : Type} (p : PerAxis α) (a b : Axis) (v : α) :
    (p.set a v).get b = if b = a then v else p.get b := by
  cases a <;> cases b <;> rfl

@[simp] theorem PerMotion.get_set_same {α : Type} (p : PerMotion α) (m : Motion) (v : α) : (p.set m v).get m = v := by
  cases m <;> rfl

theorem PerMotion.get_set_other {α : Type} (p : PerMotion α) {m n : Motion} (v : α) (h : n ≠ m) :
    (p.set m v).get n = p.get n := by
  cases m <;> cases n <;> first | rfl | exact absurd rfl h

theorem PerMotion.get_set {α : Type} (p : PerMotion α) (m n : Motion) (v : α) :
    (p.set m v).get n = if n = m then v else p.get n := by
  cases m <;> cases n <;> rfl

/-! ### State.setAsu -/

@[simp] theorem State.setAsu_asu (s : State) (x : AxisUnit) : (s.setAsu x).asu = x := rfl
@[simp] theorem State.setAsu_banks (s : State) (x : AxisUnit) : (s.setAsu x).banks = s.banks := rfl
@[simp] theorem State.setAsu_channels (s : State) (x : AxisUnit) : (s.setAsu x).channels = s.channels := rfl
@[simp] theorem State.setAsu_holdAll (s : State) (x : AxisUnit) : (s.setAsu x).holdAll = s.holdAll := rfl
@[simp] theorem State.setAsu_holdEffective (s : State) (x : AxisUnit) : (s.setAsu x).holdEffective = s.holdEffective := rfl
@[simp] theorem State.setAsu_walk (s : State) (x : AxisUnit) : (s.setAsu x).walk = s.walk := rfl
@[simp] theorem State.setAsu_plan (s : State) (x : AxisUnit) : (s.setAsu x).plan = s.plan := rfl
@[simp] theorem State.setAsu_nextLegId (s : State) (x : AxisUnit) : (s.setAsu x).nextLegId = s.nextLegId := rfl
@[simp] theorem State.setAsu_ports (s : State) (x : AxisUnit) : (s.setAsu x).ports = s.ports := rfl
@[simp] theorem State.setAsu_defs (s : State) (x : AxisUnit) : (s.setAsu x).defs = s.defs := rfl
@[simp] theorem State.setAsu_inputTimer (s : State) (x : AxisUnit) : (s.setAsu x).inputTimer = s.inputTimer := rfl
@[simp] theorem State.setAsu_table (s : State) (x : AxisUnit) : (s.setAsu x).table = s.table := rfl
@[simp] theorem State.setAsu_sup (s : State) (x : AxisUnit) : (s.setAsu x).sup = s.sup := rfl
@[simp] theorem State.setAsu_rport (s : State) (x : AxisUnit) : (s.setAsu x).rport = s.rport := rfl
@[simp] theorem State.setAsu_settings (s : State) (x : AxisUnit) : (s.setAsu x).settings = s.settings := rfl
@[simp] theorem State.setAsu_lines (s : State) (x : AxisUnit) : (s.setAsu x).lines = s.lines := rfl
@[simp] theorem State.setAsu_pins (s : State) (x : AxisUnit) : (s.setAsu x).pins = s.pins := rfl
@[simp] theorem State.setAsu_resetting (s : State) (x : AxisUnit) : (s.setAsu x).resetting = s.resetting := rfl
@[simp] theorem State.setAsu_pending (s : State) (x : AxisUnit) : (s.setAsu x).pending = s.pending := rfl

/-! ### State.setBanks -/

@[simp] theorem State.setBanks_asu (s : State) (x : ConfigBanks) : (s.setBanks x).asu = s.asu := rfl
@[simp] theorem State.setBanks_banks (s : State) (x : ConfigBanks) : (s.setBanks x).banks = x := rfl
@[simp] theorem State.setBanks_channels (s : State) (x : ConfigBanks) : (s.setBanks x).channels = s.channels := rfl
@[simp] theorem State.setBanks_holdAll (s : State) (x : ConfigBanks) : (s.setBanks x).holdAll = s.holdAll := rfl
@[simp] theorem State.setBanks_holdEffective (s : State) (x : ConfigBanks) :
    (s.setBanks x).holdEffective = s.holdEffective := rfl
@[simp] theorem State.setBanks_walk (s : State) (x : ConfigBanks) : (s.setBanks x).walk = s.walk := rfl
@[simp] theorem State.setBanks_plan (s : State) (x : ConfigBanks) : (s.setBanks x).plan = s.plan := rfl
@[simp] theorem State.setBanks_nextLegId (s : State) (x : ConfigBanks) : (s.setBanks x).nextLegId = s.nextLegId := rfl
@[simp] theorem State.setBanks_ports (s : State) (x : ConfigBanks) : (s.setBanks x).ports = s.ports := rfl
@[simp] theorem State.setBanks_defs (s : State) (x : ConfigBanks) : (s.setBanks x).defs = s.defs := rfl
@[simp] theorem State.setBanks_inputTimer (s : State) (x : ConfigBanks) : (s.setBanks x).inputTimer = s.inputTimer := rfl
@[simp] theorem State.setBanks_table (s : State) (x : ConfigBanks) : (s.setBanks x).table = s.table := rfl
@[simp] theorem State.setBanks_sup (s : State) (x : ConfigBanks) : (s.setBanks x).sup = s.sup := rfl
@[simp] theorem State.setBanks_rport (s : State) (x : ConfigBanks) : (s.setBanks x).rport = s.rport := rfl
@[simp] theorem State.setBanks_settings (s : State) (x : ConfigBanks) : (s.setBanks x).settings = s.settings := rfl
@[simp] theorem State.setBanks_lines (s : State) (x : ConfigBanks) : (s.setBanks x).lines = s.lines := rfl
@[simp] theorem State.setBanks_pins (s : State) (x : ConfigBanks) : (s.setBanks x).pins = s.pins := rfl
@[simp] theorem State.setBanks_resetting (s : State) (x : ConfigBanks) : (s.setBanks x).resetting = s.resetting := rfl
@[simp] theorem State.setBanks_pending (s : State) (x : ConfigBanks) : (s.setBanks x).pending = s.pending := rfl

/-! ### State.setChannel -/

@[simp] theorem State.setChannel_asu (s : State) (a : Axis) (x : Channel) : (s.setChannel a x).asu = s.asu := rfl
@[simp] theorem State.setChannel_banks (s : State) (a : Axis) (x : Channel) : (s.setChannel a x).banks = s.banks := rfl
@[simp] theorem State.setChannel_channels (s : State) (a : Axis) (x : Channel) :
    (s.setChannel a x).channels = s.channels.set a x := rfl
@[simp] theorem State.setChannel_holdAll (s : State) (a : Axis) (x : Channel) :
    (s.setChannel a x).holdAll = s.holdAll := rfl
@[simp] theorem State.setChannel_holdEffective (s : State) (a : Axis) (x : Channel) :
    (s.setChannel a x).holdEffective = s.holdEffective := rfl
@[simp] theorem State.setChannel_walk (s : State) (a : Axis) (x : Channel) : (s.setChannel a x).walk = s.walk := rfl
@[simp] theorem State.setChannel_plan (s : State) (a : Axis) (x : Channel) : (s.setChannel a x).plan = s.plan := rfl
@[simp] theorem State.setChannel_nextLegId (s : State) (a : Axis) (x : Channel) :
    (s.setChannel a x).nextLegId = s.nextLegId := rfl
@[simp] theorem State.setChannel_ports (s : State) (a : Axis) (x : Channel) : (s.setChannel a x).ports = s.ports := rfl
@[simp] theorem State.setChannel_defs (s : State) (a : Axis) (x : Channel) : (s.setChannel a x).defs = s.defs := rfl
@[simp] theorem State.setChannel_inputTimer (s : State) (a : Axis) (x : Channel) :
    (s.setChannel a x).inputTimer = s.inputTimer := rfl
@[simp] theorem State.setChannel_table (s : State) (a : Axis) (x : Channel) : (s.setChannel a x).table = s.table := rfl
@[simp] theorem State.setChannel_sup (s : State) (a : Axis) (x : Channel) : (s.setChannel a x).sup = s.sup := rfl
@[simp] theorem State.setChannel_rport (s : State) (a : Axis) (x : Channel) : (s.setChannel a x).rport = s.rport := rfl
@[simp] theorem State.setChannel_settings (s : State) (a : Axis) (x : Channel) :
    (s.setChannel a x).settings = s.settings := rfl
@[simp] theorem State.setChannel_lines (s : State) (a : Axis) (x : Channel) : (s.setChannel a x).lines = s.lines := rfl
@[simp] theorem State.setChannel_pins (s : State) (a : Axis) (x : Channel) : (s.setChannel a x).pins = s.pins := rfl
@[simp] theorem State.setChannel_resetting (s : State) (a : Axis) (x : Channel) :
    (s.setChannel a x).resetting = s.resetting := rfl
@[simp] theorem State.setChannel_pending (s : State) (a : Axis) (x : Channel) :
    (s.setChannel a x).pending = s.pending := rfl

/-! ### State.setWalk -/

@[simp] theorem State.setWalk_asu (s : State) (x : WalkChannel) : (s.setWalk x).asu = s.asu := rfl
@[simp] theorem State.setWalk_banks (s : State) (x : WalkChannel) : (s.setWalk x).banks = s.banks := rfl
@[simp] theorem State.setWalk_channels (s : State) (x : WalkChannel) : (s.setWalk x).channels = s.channels := rfl
@[simp] theorem State.setWalk_holdAll (s : State) (x : WalkChannel) : (s.setWalk x).holdAll = s.holdAll := rfl
@[simp] theorem State.setWalk_holdEffective (s : State) (x : WalkChannel) :
    (s.setWalk x).holdEffective = s.holdEffective := rfl
@[simp] theorem State.setWalk_walk (s : State) (x : WalkChannel) : (s.setWalk x).walk = x := rfl
@[simp] theorem State.setWalk_plan (s : State) (x : WalkChannel) : (s.setWalk x).plan = s.plan := rfl
@[simp] theorem State.setWalk_nextLegId (s : State) (x : WalkChannel) : (s.setWalk x).nextLegId = s.nextLegId := rfl
@[simp] theorem State.setWalk_ports (s : State) (x : WalkChannel) : (s.setWalk x).ports = s.ports := rfl
@[simp] theorem State.setWalk_defs (s : State) (x : WalkChannel) : (s.setWalk x).defs = s.defs := rfl
@[simp] theorem State.setWalk_inputTimer (s : State) (x : WalkChannel) : (s.setWalk x).inputTimer = s.inputTimer := rfl
@[simp] theorem State.setWalk_table (s : State) (x : WalkChannel) : (s.setWalk x).table = s.table := rfl
@[simp] theorem State.setWalk_sup (s : State) (x : WalkChannel) : (s.setWalk x).sup = s.sup := rfl
@[simp] theorem State.setWalk_rport (s : State) (x : WalkChannel) : (s.setWalk x).rport = s.rport := rfl
@[simp] theorem State.setWalk_settings (s : State) (x : WalkChannel) : (s.setWalk x).settings = s.settings := rfl
@[simp] theorem State.setWalk_lines (s : State) (x : WalkChannel) : (s.setWalk x).lines = s.lines := rfl
@[simp] theorem State.setWalk_pins (s : State) (x : WalkChannel) : (s.setWalk x).pins = s.pins := rfl
@[simp] theorem State.setWalk_resetting (s : State) (x : WalkChannel) : (s.setWalk x).resetting = s.resetting := rfl
@[simp] theorem State.setWalk_pending (s : State) (x : WalkChannel) : (s.setWalk x).pending = s.pending := rfl

/-! ### State.setPlan -/

@[simp] theorem State.setPlan_asu (s : State) (x : List Leg) : (s.setPlan x).asu = s.asu := rfl
@[simp] theorem State.setPlan_banks (s : State) (x : List Leg) : (s.setPlan x).banks = s.banks := rfl
@[simp] theorem State.setPlan_channels (s : State) (x : List Leg) : (s.setPlan x).channels = s.channels := rfl
@[simp] theorem State.setPlan_holdAll (s : State) (x : List Leg) : (s.setPlan x).holdAll = s.holdAll := rfl
@[simp] theorem State.setPlan_holdEffective (s : State) (x : List Leg) :
    (s.setPlan x).holdEffective = s.holdEffective := rfl
@[simp] theorem State.setPlan_walk (s : State) (x : List Leg) : (s.setPlan x).walk = s.walk := rfl
@[simp] theorem State.setPlan_plan (s : State) (x : List Leg) : (s.setPlan x).plan = x := rfl
@[simp] theorem State.setPlan_nextLegId (s : State) (x : List Leg) : (s.setPlan x).nextLegId = s.nextLegId := rfl
@[simp] theorem State.setPlan_ports (s : State) (x : List Leg) : (s.setPlan x).ports = s.ports := rfl
@[simp] theorem State.setPlan_defs (s : State) (x : List Leg) : (s.setPlan x).defs = s.defs := rfl
@[simp] theorem State.setPlan_inputTimer (s : State) (x : List Leg) : (s.setPlan x).inputTimer = s.inputTimer := rfl
@[simp] theorem State.setPlan_table (s : State) (x : List Leg) : (s.setPlan x).table = s.table := rfl
@[simp] theorem State.setPlan_sup (s : State) (x : List Leg) : (s.setPlan x).sup = s.sup := rfl
@[simp] theorem State.setPlan_rport (s : State) (x : List Leg) : (s.setPlan x).rport = s.rport := rfl
@[simp] theorem State.setPlan_settings (s : State) (x : List Leg) : (s.setPlan x).settings = s.settings := rfl
@[simp] theorem State.setPlan_lines (s : State) (x : List Leg) : (s.setPlan x).lines = s.lines := rfl
@[simp] theorem State.setPlan_pins (s : State) (x : List Leg) : (s.setPlan x).pins = s.pins := rfl
@[simp] theorem State.setPlan_resetting (s : State) (x : List Leg) : (s.setPlan x).resetting = s.resetting := rfl
@[simp] theorem State.setPlan_pending (s : State) (x : List Leg) : (s.setPlan x).pending = s.pending := rfl

/-! ### State.setPort -/

@[simp] theorem State.setPort_asu (s : State) (m : Motion) (x : Port) : (s.setPort m x).asu = s.asu := rfl
@[simp] theorem State.setPort_banks (s : State) (m : Motion) (x : Port) : (s.setPort m x).banks = s.banks := rfl
@[simp] theorem State.setPort_channels (s : State) (m : Motion) (x : Port) : (s.setPort m x).channels = s.channels := rfl
@[simp] theorem State.setPort_holdAll (s : State) (m : Motion) (x : Port) : (s.setPort m x).holdAll = s.holdAll := rfl
@[simp] theorem State.setPort_holdEffective (s : State) (m : Motion) (x : Port) :
    (s.setPort m x).holdEffective = s.holdEffective := rfl
@[simp] theorem State.setPort_walk (s : State) (m : Motion) (x : Port) : (s.setPort m x).walk = s.walk := rfl
@[simp] theorem State.setPort_plan (s : State) (m : Motion) (x : Port) : (s.setPort m x).plan = s.plan := rfl
@[simp] theorem State.setPort_nextLegId (s : State) (m : Motion) (x : Port) : (s.setPort m x).nextLegId = s.nextLegId := rfl
@[simp] theorem State.setPort_ports (s : State) (m : Motion) (x : Port) : (s.setPort m x).ports = s.ports.set m x := rfl
@[simp] theorem State.setPort_defs (s : State) (m : Motion) (x : Port) : (s.setPort m x).defs = s.defs := rfl
@[simp] theorem State.setPort_inputTimer (s : State) (m : Motion) (x : Port) :
    (s.setPort m x).inputTimer = s.inputTimer := rfl
@[simp] theorem State.setPort_table (s : State) (m : Motion) (x : Port) : (s.setPort m x).table = s.table := rfl
@[simp] theorem State.setPort_sup (s : State) (m : Motion) (x : Port) : (s.setPort m x).sup = s.sup := rfl
@[simp] theorem State.setPort_rport (s : State) (m : Motion) (x : Port) : (s.setPort m x).rport = s.rport := rfl
@[simp] theorem State.setPort_settings (s : State) (m : Motion) (x : Port) : (s.setPort m x).settings = s.settings := rfl
@[simp] theorem State.setPort_lines (s : State) (m : Motion) (x : Port) : (s.setPort m x).lines = s.lines := rfl
@[simp] theorem State.setPort_pins (s : State) (m : Motion) (x : Port) : (s.setPort m x).pins = s.pins := rfl
@[simp] theorem State.setPort_resetting (s : State) (m : Motion) (x : Port) : (s.setPort m x).resetting = s.resetting := rfl
@[simp] theorem State.setPort_pending (s : State) (m : Motion) (x : Port) : (s.setPort m x).pending = s.pending := rfl

/-! ### State.setDef -/

@[simp] theorem State.setDef_asu (s : State) (c : Code) (x : Definition) : (s.setDef c x).asu = s.asu := rfl
@[simp] theorem State.setDef_banks (s : State) (c : Code) (x : Definition) : (s.setDef c x).banks = s.banks := rfl
@[simp] theorem State.setDef_channels (s : State) (c : Code) (x : Definition) : (s.setDef c x).channels = s.channels := rfl
@[simp] theorem State.setDef_holdAll (s : State) (c : Code) (x : Definition) : (s.setDef c x).holdAll = s.holdAll := rfl
@[simp] theorem State.setDef_holdEffective (s : State) (c : Code) (x : Definition) :
    (s.setDef c x).holdEffective = s.holdEffective := rfl
@[simp] theorem State.setDef_walk (s : State) (c : Code) (x : Definition) : (s.setDef c x).walk = s.walk := rfl
@[simp] theorem State.setDef_plan (s : State) (c : Code) (x : Definition) : (s.setDef c x).plan = s.plan := rfl
@[simp] theorem State.setDef_nextLegId (s : State) (c : Code) (x : Definition) :
    (s.setDef c x).nextLegId = s.nextLegId := rfl
@[simp] theorem State.setDef_ports (s : State) (c : Code) (x : Definition) : (s.setDef c x).ports = s.ports := rfl
@[simp] theorem State.setDef_defs (s : State) (c : Code) (x : Definition) : (s.setDef c x).defs = s.defs.set c.idx x := rfl
@[simp] theorem State.setDef_inputTimer (s : State) (c : Code) (x : Definition) :
    (s.setDef c x).inputTimer = s.inputTimer := rfl
@[simp] theorem State.setDef_table (s : State) (c : Code) (x : Definition) : (s.setDef c x).table = s.table := rfl
@[simp] theorem State.setDef_sup (s : State) (c : Code) (x : Definition) : (s.setDef c x).sup = s.sup := rfl
@[simp] theorem State.setDef_rport (s : State) (c : Code) (x : Definition) : (s.setDef c x).rport = s.rport := rfl
@[simp] theorem State.setDef_settings (s : State) (c : Code) (x : Definition) : (s.setDef c x).settings = s.settings := rfl
@[simp] theorem State.setDef_lines (s : State) (c : Code) (x : Definition) : (s.setDef c x).lines = s.lines := rfl
@[simp] theorem State.setDef_pins (s : State) (c : Code) (x : Definition) : (s.setDef c x).pins = s.pins := rfl
@[simp] theorem State.setDef_resetting (s : State) (c : Code) (x : Definition) :
    (s.setDef c x).resetting = s.resetting := rfl
@[simp] theorem State.setDef_pending (s : State) (c : Code) (x : Definition) : (s.setDef c x).pending = s.pending := rfl

/-! ### State.setTable -/

@[simp] theorem State.setTable_asu (s : State) (x : AlarmTable) : (s.setTable x).asu = s.asu := rfl
@[simp] theorem State.setTable_banks (s : State) (x : AlarmTable) : (s.setTable x).banks = s.banks := rfl
@[simp] theorem State.setTable_channels (s : State) (x : AlarmTable) : (s.setTable x).channels = s.channels := rfl
@[simp] theorem State.setTable_holdAll (s : State) (x : AlarmTable) : (s.setTable x).holdAll = s.holdAll := rfl
@[simp] theorem State.setTable_holdEffective (s : State) (x : AlarmTable) :
    (s.setTable x).holdEffective = s.holdEffective := rfl
@[simp] theorem State.setTable_walk (s : State) (x : AlarmTable) : (s.setTable x).walk = s.walk := rfl
@[simp] theorem State.setTable_plan (s : State) (x : AlarmTable) : (s.setTable x).plan = s.plan := rfl
@[simp] theorem State.setTable_nextLegId (s : State) (x : AlarmTable) : (s.setTable x).nextLegId = s.nextLegId := rfl
@[simp] theorem State.setTable_ports (s : State) (x : AlarmTable) : (s.setTable x).ports = s.ports := rfl
@[simp] theorem State.setTable_defs (s : State) (x : AlarmTable) : (s.setTable x).defs = s.defs := rfl
@[simp] theorem State.setTable_inputTimer (s : State) (x : AlarmTable) : (s.setTable x).inputTimer = s.inputTimer := rfl
@[simp] theorem State.setTable_table (s : State) (x : AlarmTable) : (s.setTable x).table = x := rfl
@[simp] theorem State.setTable_sup (s : State) (x : AlarmTable) : (s.setTable x).sup = s.sup := rfl
@[simp] theorem State.setTable_rport (s : State) (x : AlarmTable) : (s.setTable x).rport = s.rport := rfl
@[simp] theorem State.setTable_settings (s : State) (x : AlarmTable) : (s.setTable x).settings = s.settings := rfl
@[simp] theorem State.setTable_lines (s : State) (x : AlarmTable) : (s.setTable x).lines = s.lines := rfl
@[simp] theorem State.setTable_pins (s : State) (x : AlarmTable) : (s.setTable x).pins = s.pins := rfl
@[simp] theorem State.setTable_resetting (s : State) (x : AlarmTable) : (s.setTable x).resetting = s.resetting := rfl
@[simp] theorem State.setTable_pending (s : State) (x : AlarmTable) : (s.setTable x).pending = s.pending := rfl

/-! ### State.setSup -/

@[simp] theorem State.setSup_asu (s : State) (x : Supervisor) : (s.setSup x).asu = s.asu := rfl
@[simp] theorem State.setSup_banks (s : State) (x : Supervisor) : (s.setSup x).banks = s.banks := rfl
@[simp] theorem State.setSup_channels (s : State) (x : Supervisor) : (s.setSup x).channels = s.channels := rfl
@[simp] theorem State.setSup_holdAll (s : State) (x : Supervisor) : (s.setSup x).holdAll = s.holdAll := rfl
@[simp] theorem State.setSup_holdEffective (s : State) (x : Supervisor) :
    (s.setSup x).holdEffective = s.holdEffective := rfl
@[simp] theorem State.setSup_walk (s : State) (x : Supervisor) : (s.setSup x).walk = s.walk := rfl
@[simp] theorem State.setSup_plan (s : State) (x : Supervisor) : (s.setSup x).plan = s.plan := rfl
@[simp] theorem State.setSup_nextLegId (s : State) (x : Supervisor) : (s.setSup x).nextLegId = s.nextLegId := rfl
@[simp] theorem State.setSup_ports (s : State) (x : Supervisor) : (s.setSup x).ports = s.ports := rfl
@[simp] theorem State.setSup_defs (s : State) (x : Supervisor) : (s.setSup x).defs = s.defs := rfl
@[simp] theorem State.setSup_inputTimer (s : State) (x : Supervisor) : (s.setSup x).inputTimer = s.inputTimer := rfl
@[simp] theorem State.setSup_table (s : State) (x : Supervisor) : (s.setSup x).table = s.table := rfl
@[simp] theorem State.setSup_sup (s : State) (x : Supervisor) : (s.setSup x).sup = x := rfl
@[simp] theorem State.setSup_rport (s : State) (x : Supervisor) : (s.setSup x).rport = s.rport := rfl
@[simp] theorem State.setSup_settings (s : State) (x : Supervisor) : (s.setSup x).settings = s.settings := rfl
@[simp] theorem State.setSup_lines (s : State) (x : Supervisor) : (s.setSup x).lines = s.lines := rfl
@[simp] theorem State.setSup_pins (s : State) (x : Supervisor) : (s.setSup x).pins = s.pins := rfl
@[simp] theorem State.setSup_resetting (s : State) (x : Supervisor) : (s.setSup x).resetting = s.resetting := rfl
@[simp] theorem State.setSup_pending (s : State) (x : Supervisor) : (s.setSup x).pending = s.pending := rfl

/-! ### State.setRport -/

@[simp] theorem State.setRport_asu (s : State) (x : RequestPort) : (s.setRport x).asu = s.asu := rfl
@[simp] theorem State.setRport_banks (s : State) (x : RequestPort) : (s.setRport x).banks = s.banks := rfl
@[simp] theorem State.setRport_channels (s : State) (x : RequestPort) : (s.setRport x).channels = s.channels := rfl
@[simp] theorem State.setRport_holdAll (s : State) (x : RequestPort) : (s.setRport x).holdAll = s.holdAll := rfl
@[simp] theorem State.setRport_holdEffective (s : State) (x : RequestPort) :
    (s.setRport x).holdEffective = s.holdEffective := rfl
@[simp] theorem State.setRport_walk (s : State) (x : RequestPort) : (s.setRport x).walk = s.walk := rfl
@[simp] theorem State.setRport_plan (s : State) (x : RequestPort) : (s.setRport x).plan = s.plan := rfl
@[simp] theorem State.setRport_nextLegId (s : State) (x : RequestPort) : (s.setRport x).nextLegId = s.nextLegId := rfl
@[simp] theorem State.setRport_ports (s : State) (x : RequestPort) : (s.setRport x).ports = s.ports := rfl
@[simp] theorem State.setRport_defs (s : State) (x : RequestPort) : (s.setRport x).defs = s.defs := rfl
@[simp] theorem State.setRport_inputTimer (s : State) (x : RequestPort) : (s.setRport x).inputTimer = s.inputTimer := rfl
@[simp] theorem State.setRport_table (s : State) (x : RequestPort) : (s.setRport x).table = s.table := rfl
@[simp] theorem State.setRport_sup (s : State) (x : RequestPort) : (s.setRport x).sup = s.sup := rfl
@[simp] theorem State.setRport_rport (s : State) (x : RequestPort) : (s.setRport x).rport = x := rfl
@[simp] theorem State.setRport_settings (s : State) (x : RequestPort) : (s.setRport x).settings = s.settings := rfl
@[simp] theorem State.setRport_lines (s : State) (x : RequestPort) : (s.setRport x).lines = s.lines := rfl
@[simp] theorem State.setRport_pins (s : State) (x : RequestPort) : (s.setRport x).pins = s.pins := rfl
@[simp] theorem State.setRport_resetting (s : State) (x : RequestPort) : (s.setRport x).resetting = s.resetting := rfl
@[simp] theorem State.setRport_pending (s : State) (x : RequestPort) : (s.setRport x).pending = s.pending := rfl

/-! ### State.setSetting -/

@[simp] theorem State.setSetting_asu (s : State) (k : Setting) (v : Nat) : (s.setSetting k v).asu = s.asu := rfl
@[simp] theorem State.setSetting_banks (s : State) (k : Setting) (v : Nat) : (s.setSetting k v).banks = s.banks := rfl
@[simp] theorem State.setSetting_channels (s : State) (k : Setting) (v : Nat) :
    (s.setSetting k v).channels = s.channels := rfl
@[simp] theorem State.setSetting_holdAll (s : State) (k : Setting) (v : Nat) : (s.setSetting k v).holdAll = s.holdAll := rfl
@[simp] theorem State.setSetting_holdEffective (s : State) (k : Setting) (v : Nat) :
    (s.setSetting k v).holdEffective = s.holdEffective := rfl
@[simp] theorem State.setSetting_walk (s : State) (k : Setting) (v : Nat) : (s.setSetting k v).walk = s.walk := rfl
@[simp] theorem State.setSetting_plan (s : State) (k : Setting) (v : Nat) : (s.setSetting k v).plan = s.plan := rfl
@[simp] theorem State.setSetting_nextLegId (s : State) (k : Setting) (v : Nat) :
    (s.setSetting k v).nextLegId = s.nextLegId := rfl
@[simp] theorem State.setSetting_ports (s : State) (k : Setting) (v : Nat) : (s.setSetting k v).ports = s.ports := rfl
@[simp] theorem State.setSetting_defs (s : State) (k : Setting) (v : Nat) : (s.setSetting k v).defs = s.defs := rfl
@[simp] theorem State.setSetting_inputTimer (s : State) (k : Setting) (v : Nat) :
    (s.setSetting k v).inputTimer = s.inputTimer := rfl
@[simp] theorem State.setSetting_table (s : State) (k : Setting) (v : Nat) : (s.setSetting k v).table = s.table := rfl
@[simp] theorem State.setSetting_sup (s : State) (k : Setting) (v : Nat) : (s.setSetting k v).sup = s.sup := rfl
@[simp] theorem State.setSetting_rport (s : State) (k : Setting) (v : Nat) : (s.setSetting k v).rport = s.rport := rfl
@[simp] theorem State.setSetting_settings (s : State) (k : Setting) (v : Nat) :
    (s.setSetting k v).settings = s.settings.set k.idx v := rfl
@[simp] theorem State.setSetting_lines (s : State) (k : Setting) (v : Nat) : (s.setSetting k v).lines = s.lines := rfl
@[simp] theorem State.setSetting_pins (s : State) (k : Setting) (v : Nat) : (s.setSetting k v).pins = s.pins := rfl
@[simp] theorem State.setSetting_resetting (s : State) (k : Setting) (v : Nat) :
    (s.setSetting k v).resetting = s.resetting := rfl
@[simp] theorem State.setSetting_pending (s : State) (k : Setting) (v : Nat) : (s.setSetting k v).pending = s.pending := rfl

/-! ### State.setPins -/

@[simp] theorem State.setPins_asu (s : State) (x : Pins) : (s.setPins x).asu = s.asu := rfl
@[simp] theorem State.setPins_banks (s : State) (x : Pins) : (s.setPins x).banks = s.banks := rfl
@[simp] theorem State.setPins_channels (s : State) (x : Pins) : (s.setPins x).channels = s.channels := rfl
@[simp] theorem State.setPins_holdAll (s : State) (x : Pins) : (s.setPins x).holdAll = s.holdAll := rfl
@[simp] theorem State.setPins_holdEffective (s : State) (x : Pins) : (s.setPins x).holdEffective = s.holdEffective := rfl
@[simp] theorem State.setPins_walk (s : State) (x : Pins) : (s.setPins x).walk = s.walk := rfl
@[simp] theorem State.setPins_plan (s : State) (x : Pins) : (s.setPins x).plan = s.plan := rfl
@[simp] theorem State.setPins_nextLegId (s : State) (x : Pins) : (s.setPins x).nextLegId = s.nextLegId := rfl
@[simp] theorem State.setPins_ports (s : State) (x : Pins) : (s.setPins x).ports = s.ports := rfl
@[simp] theorem State.setPins_defs (s : State) (x : Pins) : (s.setPins x).defs = s.defs := rfl
@[simp] theorem State.setPins_inputTimer (s : State) (x : Pins) : (s.setPins x).inputTimer = s.inputTimer := rfl
@[simp] theorem State.setPins_table (s : State) (x : Pins) : (s.setPins x).table = s.table := rfl
@[simp] theorem State.setPins_sup (s : State) (x : Pins) : (s.setPins x).sup = s.sup := rfl
@[simp] theorem State.setPins_rport (s : State) (x : Pins) : (s.setPins x).rport = s.rport := rfl
@[simp] theorem State.setPins_settings (s : State) (x : Pins) : (s.setPins x).settings = s.settings := rfl
@[simp] theorem State.setPins_lines (s : State) (x : Pins) : (s.setPins x).lines = s.lines := rfl
@[simp] theorem State.setPins_pins (s : State) (x : Pins) : (s.setPins x).pins = x := rfl
@[simp] theorem State.setPins_resetting (s : State) (x : Pins) : (s.setPins x).resetting = s.resetting := rfl
@[simp] theorem State.setPins_pending (s : State) (x : Pins) : (s.setPins x).pending = s.pending := rfl

/-! ### State.setFlag and the flag words -/

@[simp] theorem State.setFlagWords_asu (s : State) (flags mask : Word16) : (s.setFlagWords flags mask).asu = s.asu := rfl
@[simp] theorem State.setFlagWords_banks (s : State) (flags mask : Word16) :
    (s.setFlagWords flags mask).banks = s.banks := rfl
@[simp] theorem State.setFlagWords_channels (s : State) (flags mask : Word16) :
    (s.setFlagWords flags mask).channels = s.channels := rfl
@[simp] theorem State.setFlagWords_holdAll (s : State) (flags mask : Word16) :
    (s.setFlagWords flags mask).holdAll = s.holdAll := rfl
@[simp] theorem State.setFlagWords_holdEffective (s : State) (flags mask : Word16) :
    (s.setFlagWords flags mask).holdEffective = s.holdEffective := rfl
@[simp] theorem State.setFlagWords_walk (s : State) (flags mask : Word16) : (s.setFlagWords flags mask).walk = s.walk := rfl
@[simp] theorem State.setFlagWords_plan (s : State) (flags mask : Word16) : (s.setFlagWords flags mask).plan = s.plan := rfl
@[simp] theorem State.setFlagWords_nextLegId (s : State) (flags mask : Word16) :
    (s.setFlagWords flags mask).nextLegId = s.nextLegId := rfl
@[simp] theorem State.setFlagWords_ports (s : State) (flags mask : Word16) :
    (s.setFlagWords flags mask).ports = s.ports := rfl
@[simp] theorem State.setFlagWords_defs (s : State) (flags mask : Word16) : (s.setFlagWords flags mask).defs = s.defs := rfl
@[simp] theorem State.setFlagWords_inputTimer (s : State) (flags mask : Word16) :
    (s.setFlagWords flags mask).inputTimer = s.inputTimer := rfl
@[simp] theorem State.setFlagWords_table (s : State) (flags mask : Word16) :
    (s.setFlagWords flags mask).table = s.table := rfl
@[simp] theorem State.setFlagWords_sup (s : State) (flags mask : Word16) : (s.setFlagWords flags mask).sup = s.sup := rfl
@[simp] theorem State.setFlagWords_rport (s : State) (flags mask : Word16) :
    (s.setFlagWords flags mask).rport = { s.rport with flags := flags, mask := mask } := rfl
@[simp] theorem State.setFlagWords_settings (s : State) (flags mask : Word16) :
    (s.setFlagWords flags mask).settings = s.settings := rfl
@[simp] theorem State.setFlagWords_lines (s : State) (flags mask : Word16) :
    (s.setFlagWords flags mask).lines = s.lines := rfl
@[simp] theorem State.setFlagWords_pins (s : State) (flags mask : Word16) :
    (s.setFlagWords flags mask).pins = { s.pins with attn := attnLevel flags mask } := rfl
@[simp] theorem State.setFlagWords_resetting (s : State) (flags mask : Word16) :
    (s.setFlagWords flags mask).resetting = s.resetting := rfl
@[simp] theorem State.setFlagWords_pending (s : State) (flags mask : Word16) :
    (s.setFlagWords flags mask).pending = s.pending := rfl

@[simp] theorem State.setFlag_asu (s : State) (f : EventFlag) : (s.setFlag f).asu = s.asu := rfl
@[simp] theorem State.setFlag_banks (s : State) (f : EventFlag) : (s.setFlag f).banks = s.banks := rfl
@[simp] theorem State.setFlag_channels (s : State) (f : EventFlag) : (s.setFlag f).channels = s.channels := rfl
@[simp] theorem State.setFlag_holdAll (s : State) (f : EventFlag) : (s.setFlag f).holdAll = s.holdAll := rfl
@[simp] theorem State.setFlag_holdEffective (s : State) (f : EventFlag) :
    (s.setFlag f).holdEffective = s.holdEffective := rfl
@[simp] theorem State.setFlag_walk (s : State) (f : EventFlag) : (s.setFlag f).walk = s.walk := rfl
@[simp] theorem State.setFlag_plan (s : State) (f : EventFlag) : (s.setFlag f).plan = s.plan := rfl
@[simp] theorem State.setFlag_nextLegId (s : State) (f : EventFlag) : (s.setFlag f).nextLegId = s.nextLegId := rfl
@[simp] theorem State.setFlag_ports (s : State) (f : EventFlag) : (s.setFlag f).ports = s.ports := rfl
@[simp] theorem State.setFlag_defs (s : State) (f : EventFlag) : (s.setFlag f).defs = s.defs := rfl
@[simp] theorem State.setFlag_inputTimer (s : State) (f : EventFlag) : (s.setFlag f).inputTimer = s.inputTimer := rfl
@[simp] theorem State.setFlag_table (s : State) (f : EventFlag) : (s.setFlag f).table = s.table := rfl
@[simp] theorem State.setFlag_sup (s : State) (f : EventFlag) : (s.setFlag f).sup = s.sup := rfl
@[simp] theorem State.setFlag_rport (s : State) (f : EventFlag) :
    (s.setFlag f).rport = { s.rport with flags := s.rport.flags ||| f.word, mask := s.rport.mask } := rfl
@[simp] theorem State.setFlag_settings (s : State) (f : EventFlag) : (s.setFlag f).settings = s.settings := rfl
@[simp] theorem State.setFlag_lines (s : State) (f : EventFlag) : (s.setFlag f).lines = s.lines := rfl
@[simp] theorem State.setFlag_pins (s : State) (f : EventFlag) :
    (s.setFlag f).pins = { s.pins with attn := attnLevel (s.rport.flags ||| f.word) s.rport.mask } := rfl
@[simp] theorem State.setFlag_resetting (s : State) (f : EventFlag) : (s.setFlag f).resetting = s.resetting := rfl
@[simp] theorem State.setFlag_pending (s : State) (f : EventFlag) : (s.setFlag f).pending = s.pending := rfl

@[simp] theorem State.ackFlags_asu (s : State) (named : Word16) : (s.ackFlags named).asu = s.asu := rfl
@[simp] theorem State.ackFlags_banks (s : State) (named : Word16) : (s.ackFlags named).banks = s.banks := rfl
@[simp] theorem State.ackFlags_channels (s : State) (named : Word16) : (s.ackFlags named).channels = s.channels := rfl
@[simp] theorem State.ackFlags_holdAll (s : State) (named : Word16) : (s.ackFlags named).holdAll = s.holdAll := rfl
@[simp] theorem State.ackFlags_holdEffective (s : State) (named : Word16) :
    (s.ackFlags named).holdEffective = s.holdEffective := rfl
@[simp] theorem State.ackFlags_walk (s : State) (named : Word16) : (s.ackFlags named).walk = s.walk := rfl
@[simp] theorem State.ackFlags_plan (s : State) (named : Word16) : (s.ackFlags named).plan = s.plan := rfl
@[simp] theorem State.ackFlags_nextLegId (s : State) (named : Word16) : (s.ackFlags named).nextLegId = s.nextLegId := rfl
@[simp] theorem State.ackFlags_ports (s : State) (named : Word16) : (s.ackFlags named).ports = s.ports := rfl
@[simp] theorem State.ackFlags_defs (s : State) (named : Word16) : (s.ackFlags named).defs = s.defs := rfl
@[simp] theorem State.ackFlags_inputTimer (s : State) (named : Word16) : (s.ackFlags named).inputTimer = s.inputTimer := rfl
@[simp] theorem State.ackFlags_table (s : State) (named : Word16) : (s.ackFlags named).table = s.table := rfl
@[simp] theorem State.ackFlags_sup (s : State) (named : Word16) : (s.ackFlags named).sup = s.sup := rfl
@[simp] theorem State.ackFlags_rport (s : State) (named : Word16) :
    (s.ackFlags named).rport = { s.rport with flags := s.rport.flags &&& ~~~named, mask := s.rport.mask } := rfl
@[simp] theorem State.ackFlags_settings (s : State) (named : Word16) : (s.ackFlags named).settings = s.settings := rfl
@[simp] theorem State.ackFlags_lines (s : State) (named : Word16) : (s.ackFlags named).lines = s.lines := rfl
@[simp] theorem State.ackFlags_pins (s : State) (named : Word16) :
    (s.ackFlags named).pins = { s.pins with attn := attnLevel (s.rport.flags &&& ~~~named) s.rport.mask } := rfl
@[simp] theorem State.ackFlags_resetting (s : State) (named : Word16) : (s.ackFlags named).resetting = s.resetting := rfl
@[simp] theorem State.ackFlags_pending (s : State) (named : Word16) : (s.ackFlags named).pending = s.pending := rfl

@[simp] theorem State.setMask_asu (s : State) (mask : Word16) : (s.setMask mask).asu = s.asu := rfl
@[simp] theorem State.setMask_banks (s : State) (mask : Word16) : (s.setMask mask).banks = s.banks := rfl
@[simp] theorem State.setMask_channels (s : State) (mask : Word16) : (s.setMask mask).channels = s.channels := rfl
@[simp] theorem State.setMask_holdAll (s : State) (mask : Word16) : (s.setMask mask).holdAll = s.holdAll := rfl
@[simp] theorem State.setMask_holdEffective (s : State) (mask : Word16) :
    (s.setMask mask).holdEffective = s.holdEffective := rfl
@[simp] theorem State.setMask_walk (s : State) (mask : Word16) : (s.setMask mask).walk = s.walk := rfl
@[simp] theorem State.setMask_plan (s : State) (mask : Word16) : (s.setMask mask).plan = s.plan := rfl
@[simp] theorem State.setMask_nextLegId (s : State) (mask : Word16) : (s.setMask mask).nextLegId = s.nextLegId := rfl
@[simp] theorem State.setMask_ports (s : State) (mask : Word16) : (s.setMask mask).ports = s.ports := rfl
@[simp] theorem State.setMask_defs (s : State) (mask : Word16) : (s.setMask mask).defs = s.defs := rfl
@[simp] theorem State.setMask_inputTimer (s : State) (mask : Word16) : (s.setMask mask).inputTimer = s.inputTimer := rfl
@[simp] theorem State.setMask_table (s : State) (mask : Word16) : (s.setMask mask).table = s.table := rfl
@[simp] theorem State.setMask_sup (s : State) (mask : Word16) : (s.setMask mask).sup = s.sup := rfl
@[simp] theorem State.setMask_rport (s : State) (mask : Word16) :
    (s.setMask mask).rport = { s.rport with flags := s.rport.flags, mask := mask } := rfl
@[simp] theorem State.setMask_settings (s : State) (mask : Word16) : (s.setMask mask).settings = s.settings := rfl
@[simp] theorem State.setMask_lines (s : State) (mask : Word16) : (s.setMask mask).lines = s.lines := rfl
@[simp] theorem State.setMask_pins (s : State) (mask : Word16) :
    (s.setMask mask).pins = { s.pins with attn := attnLevel s.rport.flags mask } := rfl
@[simp] theorem State.setMask_resetting (s : State) (mask : Word16) : (s.setMask mask).resetting = s.resetting := rfl
@[simp] theorem State.setMask_pending (s : State) (mask : Word16) : (s.setMask mask).pending = s.pending := rfl

/-! ### Rope axes -/

@[simp] theorem State.setRope_banks (s : State) (r : Rope) (x : RopeAxis) : (s.setRope r x).banks = s.banks := by cases r <;> rfl
@[simp] theorem State.setRope_channels (s : State) (r : Rope) (x : RopeAxis) : (s.setRope r x).channels = s.channels := by cases r <;> rfl
@[simp] theorem State.setRope_holdAll (s : State) (r : Rope) (x : RopeAxis) : (s.setRope r x).holdAll = s.holdAll := by cases r <;> rfl
@[simp] theorem State.setRope_holdEffective (s : State) (r : Rope) (x : RopeAxis) : (s.setRope r x).holdEffective = s.holdEffective := by cases r <;> rfl
@[simp] theorem State.setRope_walk (s : State) (r : Rope) (x : RopeAxis) : (s.setRope r x).walk = s.walk := by cases r <;> rfl
@[simp] theorem State.setRope_plan (s : State) (r : Rope) (x : RopeAxis) : (s.setRope r x).plan = s.plan := by cases r <;> rfl
@[simp] theorem State.setRope_nextLegId (s : State) (r : Rope) (x : RopeAxis) : (s.setRope r x).nextLegId = s.nextLegId := by cases r <;> rfl
@[simp] theorem State.setRope_ports (s : State) (r : Rope) (x : RopeAxis) : (s.setRope r x).ports = s.ports := by cases r <;> rfl
@[simp] theorem State.setRope_defs (s : State) (r : Rope) (x : RopeAxis) : (s.setRope r x).defs = s.defs := by cases r <;> rfl
@[simp] theorem State.setRope_inputTimer (s : State) (r : Rope) (x : RopeAxis) : (s.setRope r x).inputTimer = s.inputTimer := by cases r <;> rfl
@[simp] theorem State.setRope_table (s : State) (r : Rope) (x : RopeAxis) : (s.setRope r x).table = s.table := by cases r <;> rfl
@[simp] theorem State.setRope_sup (s : State) (r : Rope) (x : RopeAxis) : (s.setRope r x).sup = s.sup := by cases r <;> rfl
@[simp] theorem State.setRope_rport (s : State) (r : Rope) (x : RopeAxis) : (s.setRope r x).rport = s.rport := by cases r <;> rfl
@[simp] theorem State.setRope_settings (s : State) (r : Rope) (x : RopeAxis) : (s.setRope r x).settings = s.settings := by cases r <;> rfl
@[simp] theorem State.setRope_lines (s : State) (r : Rope) (x : RopeAxis) : (s.setRope r x).lines = s.lines := by cases r <;> rfl
@[simp] theorem State.setRope_pins (s : State) (r : Rope) (x : RopeAxis) : (s.setRope r x).pins = s.pins := by cases r <;> rfl
@[simp] theorem State.setRope_resetting (s : State) (r : Rope) (x : RopeAxis) : (s.setRope r x).resetting = s.resetting := by cases r <;> rfl
@[simp] theorem State.setRope_pending (s : State) (r : Rope) (x : RopeAxis) : (s.setRope r x).pending = s.pending := by cases r <;> rfl

@[simp] theorem State.setRope_rope_same (s : State) (r : Rope) (x : RopeAxis) : (s.setRope r x).rope r = x := by
  cases r <;> rfl

theorem State.setRope_rope_other (s : State) {r q : Rope} (x : RopeAxis) (h : q ≠ r) : (s.setRope r x).rope q = s.rope q := by
  cases r <;> cases q <;> first | rfl | exact absurd rfl h

/-! ### Settings and definitions after a write -/

/-- A setting stands in the list at its place. -/
theorem Setting.all_idx (k : Setting) : Setting.all[k.idx.val]? = some k := by
  cases k with
  | accelStep m => cases m <;> rfl
  | decelStep m => cases m <;> rfl
  | linkPeriod m => cases m <;> rfl
  | _ => rfl

theorem Setting.idx_injective {k l : Setting} (h : k.idx = l.idx) : k = l := by
  have := Setting.all_idx k
  rw [h, Setting.all_idx l] at this
  exact (Option.some.inj this).symm

theorem State.cfg_setSetting (s : State) (k l : Setting) (v : Nat) : (s.setSetting k v).cfg l = if l = k then v else s.cfg l := by
  unfold State.cfg State.setSetting
  by_cases h : l = k
  · subst h; simp
  · have : k.idx.val ≠ l.idx.val := fun e => h (Setting.idx_injective (Fin.ext e)).symm
    simp [h, this]

/-- The settings of two states with the same store read the same. -/
theorem State.cfg_congr {s t : State} (h : s.settings = t.settings) (k : Setting) : s.cfg k = t.cfg k := by
  unfold State.cfg; rw [h]

/-- A code stands in the list at its place. -/
theorem Code.all_idx (c : Code) : Code.all[c.idx.val]? = some c := by
  cases c with
  | demandLost a => cases a <;> rfl
  | driveLost m => cases m <;> rfl
  | driveFault m => cases m <;> rfl
  | encoderFault a => cases a <;> rfl
  | input i => revert i; decide
  | host i => revert i; decide
  | _ => rfl

theorem Code.idx_injective {c d : Code} (h : c.idx = d.idx) : c = d := by
  have := Code.all_idx c
  rw [h, Code.all_idx d] at this
  exact (Option.some.inj this).symm

/-- Every code and every setting stands in its list. -/
theorem Code.mem_all (c : Code) : c ∈ Code.all := List.mem_of_getElem? (Code.all_idx c)

theorem Setting.mem_all (k : Setting) : k ∈ Setting.all := List.mem_of_getElem? (Setting.all_idx k)

/-- A code is named by its own number (R142). -/
theorem Code.ofNum_num (c : Code) : Code.ofNum c.num = some c := by
  cases c with
  | demandLost a => cases a <;> rfl
  | driveLost m => cases m <;> rfl
  | driveFault m => cases m <;> rfl
  | encoderFault a => cases a <;> rfl
  | input i => revert i; decide
  | host i => revert i; decide
  | _ => rfl

/-- A setting is named by its own id (12.10). -/
theorem Setting.ofId_id (k : Setting) : Setting.ofId k.id = some k := by
  cases k with
  | accelStep m => cases m <;> rfl
  | decelStep m => cases m <;> rfl
  | linkPeriod m => cases m <;> rfl
  | _ => rfl

theorem State.definition_setDef (s : State) (c e : Code) (d : Definition) :
    (s.setDef c d).definition e = if e = c then d else s.definition e := by
  unfold State.definition State.setDef
  by_cases h : e = c
  · subst h; simp
  · have : c.idx.val ≠ e.idx.val := fun x => h (Code.idx_injective (Fin.ext x)).symm
    simp [h, this]

/-- The definitions of two states with the same store read the same. -/
theorem State.definition_congr {s t : State} (h : s.defs = t.defs) (c : Code) : s.definition c = t.definition c := by
  unfold State.definition; rw [h]

/-! ### The event flag set -/

/-- A flag that has been set stands in the set (R191). -/
theorem EventFlag.isIn_set (f : EventFlag) (w : Word16) : f.isIn (w ||| f.word) = true := by
  have : f.bit < 16 := by cases f <;> first | decide | (rename_i m; cases m <;> decide)
  simp [EventFlag.isIn, EventFlag.word, this]

end Sys2Proof.Machine
end

