-- ==== Sys2Proof/Laws/Table.lean ====
section
/-!
SUPPORT. What the operations of the Alarm Table touch: the records, the definitions, the event flags with ATTN, and nothing
else. Reading a record after another is changed or leaves, and the terms of the consequence set.
-/

namespace Sys2Proof.Machine

/-- A state that differs from another in the table, the definitions, the event flags and ATTN at most. -/
structure OnlyTable (s t : State) : Prop where
  asu : t.asu = s.asu
  banks : t.banks = s.banks
  channels : t.channels = s.channels
  holdAll : t.holdAll = s.holdAll
  holdEffective : t.holdEffective = s.holdEffective
  walk : t.walk = s.walk
  plan : t.plan = s.plan
  nextLegId : t.nextLegId = s.nextLegId
  ports : t.ports = s.ports
  inputTimer : t.inputTimer = s.inputTimer
  sup : t.sup = s.sup
  settings : t.settings = s.settings
  lines : t.lines = s.lines
  resetting : t.resetting = s.resetting
  pending : t.pending = s.pending
  rport : t.rport = { s.rport with flags := t.rport.flags }
  pins : t.pins = { s.pins with attn := t.pins.attn }
  attn : s.pins.attn = attnLevel s.rport.flags s.rport.mask → t.pins.attn = attnLevel t.rport.flags t.rport.mask
  flags : s.rport.flags &&& t.rport.flags = s.rport.flags
  consequence : t.table.consequence = s.table.consequence

theorem OnlyTable.refl (s : State) : OnlyTable s s where
  asu := rfl
  banks := rfl
  channels := rfl
  holdAll := rfl
  holdEffective := rfl
  walk := rfl
  plan := rfl
  nextLegId := rfl
  ports := rfl
  inputTimer := rfl
  sup := rfl
  settings := rfl
  lines := rfl
  resetting := rfl
  pending := rfl
  rport := rfl
  pins := rfl
  attn h := h
  flags := BitVec.and_self
  consequence := rfl

/-- The relation composes. -/
theorem OnlyTable.trans {s t u : State} (h : OnlyTable s t) (k : OnlyTable t u) : OnlyTable s u where
  asu := k.asu.trans h.asu
  banks := k.banks.trans h.banks
  channels := k.channels.trans h.channels
  holdAll := k.holdAll.trans h.holdAll
  holdEffective := k.holdEffective.trans h.holdEffective
  walk := k.walk.trans h.walk
  plan := k.plan.trans h.plan
  nextLegId := k.nextLegId.trans h.nextLegId
  ports := k.ports.trans h.ports
  inputTimer := k.inputTimer.trans h.inputTimer
  sup := k.sup.trans h.sup
  settings := k.settings.trans h.settings
  lines := k.lines.trans h.lines
  resetting := k.resetting.trans h.resetting
  pending := k.pending.trans h.pending
  rport := by rw [k.rport, h.rport]
  pins := by rw [k.pins, h.pins]
  attn x := k.attn (h.attn x)
  flags := by rw [← h.flags, BitVec.and_assoc, k.flags]
  consequence := k.consequence.trans h.consequence

/-! ### Each operation -/

theorem onlyTable_setTable (s : State) {t : AlarmTable} (h : t.consequence = s.table.consequence) : OnlyTable s (s.setTable t) :=
  { OnlyTable.refl s with rport := rfl, pins := rfl, attn := id, flags := BitVec.and_self, consequence := h }

theorem onlyTable_setDef (s : State) (c : Code) (d : Definition) : OnlyTable s (s.setDef c d) :=
  { OnlyTable.refl s with rport := rfl, pins := rfl, attn := id, flags := BitVec.and_self, consequence := rfl }

theorem onlyTable_setFlag (s : State) (f : EventFlag) : OnlyTable s (s.setFlag f) :=
  { OnlyTable.refl s with
    rport := rfl
    pins := rfl
    attn := fun _ => rfl
    flags := by ext i; simp; exact Or.inl
    consequence := rfl }

@[simp] theorem AlarmTable.modify_consequence (t : AlarmTable) (c : Code) (f : AlarmRecord → AlarmRecord) :
    (t.modify c f).consequence = t.consequence := by unfold AlarmTable.modify; split <;> rfl

@[simp] theorem AlarmTable.remove_consequence (t : AlarmTable) (c : Code) : (t.remove c).consequence = t.consequence := by
  unfold AlarmTable.remove; dsimp only; split <;> rfl

theorem onlyTable_createRecord (s : State) (c : Code) : OnlyTable s (s.createRecord c) := by
  unfold State.createRecord
  refine (onlyTable_setTable s ?_).trans (onlyTable_setFlag _ _)
  dsimp only; split <;> rfl

theorem onlyTable_reviveRecord (s : State) (c : Code) : OnlyTable s (s.reviveRecord c) := by
  unfold State.reviveRecord
  exact (onlyTable_setTable s (by simp)).trans (onlyTable_setFlag _ _)

theorem onlyTable_setRecordState (s : State) (c : Code) (x : RecordState) : OnlyTable s (s.setRecordState c x) := by
  unfold State.setRecordState; exact onlyTable_setTable s (by simp)

theorem onlyTable_remove (s : State) (c : Code) : OnlyTable s (s.setTable (s.table.remove c)) :=
  onlyTable_setTable s (by simp)

theorem onlyTable_raiseOverflow (s : State) : OnlyTable s s.raiseOverflow := by
  unfold State.raiseOverflow
  dsimp only
  split
  · exact (onlyTable_setDef s _ _).trans (onlyTable_createRecord _ _)
  · split
    · exact (onlyTable_setDef s _ _).trans (onlyTable_reviveRecord _ _)
    · exact onlyTable_setDef s _ _

theorem onlyTable_clearOverflow (s : State) : OnlyTable s s.clearOverflow := by
  unfold State.clearOverflow
  dsimp only
  split
  · exact onlyTable_setDef s _ _
  · split
    · exact (onlyTable_setDef s _ _).trans (onlyTable_setRecordState _ _ _)
    · exact (onlyTable_setDef s _ _).trans (onlyTable_remove _ _)
    · exact (onlyTable_setDef s _ _).trans (onlyTable_remove _ _)
    · exact onlyTable_setDef s _ _

theorem onlyTable_overflowSample (s : State) : OnlyTable s s.overflowSample := by
  unfold State.overflowSample
  dsimp only
  split
  · exact OnlyTable.refl s
  · split
    · exact onlyTable_raiseOverflow s
    · exact onlyTable_clearOverflow s

theorem onlyTable_setMarkOf (s : State) (c : Code) (m : Bool) : OnlyTable s (s.setMarkOf c m) :=
  (onlyTable_setDef s _ _).trans (onlyTable_overflowSample _)

theorem onlyTable_raiseNoRoom (s : State) (c : Code) : OnlyTable s (s.raiseNoRoom c) := by
  unfold State.raiseNoRoom
  split
  · dsimp only
    refine OnlyTable.trans ?_ (onlyTable_createRecord _ _)
    split
    · exact (onlyTable_remove s _).trans (onlyTable_setMarkOf _ _ _)
    · exact onlyTable_remove s _
  · exact onlyTable_setMarkOf s c true

theorem onlyTable_raiseRecord (s : State) (c : Code) : OnlyTable s (s.raiseRecord c) := by
  unfold State.raiseRecord
  split
  · split
    · exact onlyTable_reviveRecord s c
    · exact OnlyTable.refl s
  · split
    · exact onlyTable_createRecord s c
    · exact onlyTable_raiseNoRoom s c

theorem onlyTable_retireRecord (s : State) (c : Code) : OnlyTable s (s.retireRecord c) := by
  unfold State.retireRecord
  dsimp only
  split
  · exact onlyTable_remove s c
  · split
    · exact (onlyTable_remove s c).trans ((onlyTable_setMarkOf _ _ _).trans (onlyTable_createRecord _ _))
    · exact onlyTable_remove s c

theorem onlyTable_clearRecord (s : State) (c : Code) : OnlyTable s (s.clearRecord c) := by
  unfold State.clearRecord
  split
  · exact onlyTable_setMarkOf s c false
  · split
    · split
      · exact onlyTable_setRecordState s c _
      · exact onlyTable_retireRecord s c
      · exact onlyTable_retireRecord s c
      · exact OnlyTable.refl s
    · exact OnlyTable.refl s

theorem onlyTable_ackRecord (s : State) (c : Code) : OnlyTable s (s.ackRecord c) := by
  unfold State.ackRecord
  split
  · split
    · exact onlyTable_setRecordState s c _
    · exact onlyTable_retireRecord s c
    · exact OnlyTable.refl s
    · exact OnlyTable.refl s
  · exact OnlyTable.refl s

/-! ### Reading records -/

/-- The record found for a code is of that code, code 27 in its slot aside. -/
theorem AlarmTable.find_code {t : AlarmTable} {c : Code} {r : AlarmRecord} (hc : c ≠ .tableOverflow) (h : t.find c = some r) :
    r.code = c ∧ r ∈ t.records := by
  unfold AlarmTable.find at h
  rw [if_neg hc] at h
  exact ⟨by simpa using List.find?_some h, List.mem_of_find?_eq_some h⟩

/-- A record that leaves is no longer found (R158). -/
@[simp] theorem AlarmTable.find_remove_same (t : AlarmTable) (c : Code) : (t.remove c).find c = none := by
  unfold AlarmTable.remove AlarmTable.find
  by_cases h : c = .tableOverflow
  · simp [h]
  · simp [h, List.find?_eq_none]

/-- A record that leaves takes no other record with it (R158). -/
theorem AlarmTable.find_remove_other (t : AlarmTable) {c e : Code} (h : e ≠ c) : (t.remove c).find e = t.find e := by
  unfold AlarmTable.remove AlarmTable.find
  by_cases hc : c = .tableOverflow <;> by_cases he : e = .tableOverflow
  · exact absurd (he.trans hc.symm) h
  · simp [hc, he]
  · simp [hc, he]
  · simp only [hc, he, if_false]
    rw [List.find?_filter]
    congr 1
    funext r
    by_cases hr : r.code = e
    · simp [hr, h]
    · simp [hr]

/-- Changing the record of one code leaves the record of every other code. -/
theorem AlarmTable.find_modify_other (t : AlarmTable) {c e : Code} (f : AlarmRecord → AlarmRecord)
    (hf : ∀ r, (f r).code = r.code) (h : e ≠ c) : (t.modify c f).find e = t.find e := by
  unfold AlarmTable.modify AlarmTable.find
  by_cases hc : c = .tableOverflow <;> by_cases he : e = .tableOverflow
  · exact absurd (he.trans hc.symm) h
  · simp [hc, he]
  · simp [hc, he]
  · simp only [hc, he, if_false]
    generalize t.records = l
    induction l with
    | nil => rfl
    | cons r l ih =>
      simp only [List.map_cons, List.find?_cons]
      by_cases hr : r.code = c
      · have : ¬ c = e := fun x => h x.symm
        simp [hr, hf, this, ih]
      · simp [hr, ih]

/-- Changing the record of a code changes it in its place. -/
theorem AlarmTable.find_modify_same (t : AlarmTable) (c : Code) (f : AlarmRecord → AlarmRecord)
    (hf : ∀ r, (f r).code = r.code) : (t.modify c f).find c = (t.find c).map f := by
  unfold AlarmTable.modify AlarmTable.find
  by_cases hc : c = .tableOverflow
  · simp [hc]
  · simp only [hc, if_false]
    generalize t.records = l
    induction l with
    | nil => rfl
    | cons r l ih =>
      simp only [List.map_cons, List.find?_cons]
      by_cases hr : r.code = c
      · simp [hr, hf]
      · simp [hr, ih]

/-! ### The consequence set (R169) -/

/-- A DERATE record in effect that scopes a motion. -/
def AlarmRecord.derates (x : AlarmRecord) (m : Motion) : Prop :=
  x.cls = .derate ∧ x.inEffect = true ∧ x.scope.get m = true

/-- The derate term is 1000 at most, no more than any cap that derates, and 1000 or one of those caps (R43, R169). -/
theorem derateTerm_spec (l : List AlarmRecord) (m : Motion) :
    derateTerm l m ≤ 1000 ∧ (∀ x ∈ l, ∀ k, x.derates m → x.cap = some k → derateTerm l m ≤ k) ∧
      (derateTerm l m = 1000 ∨ ∃ x ∈ l, x.derates m ∧ x.cap = some (derateTerm l m)) := by
  induction l with
  | nil => simp [derateTerm]
  | cons r l ih =>
    obtain ⟨top, caps, attained⟩ := ih
    simp only [derateTerm]
    by_cases lr : r.cls = .derate ∧ r.inEffect = true ∧ r.scope.get m = true
    · rw [if_pos lr]
      rcases hc : r.cap with _ | k
      · simp only [Option.getD_none, Nat.min_eq_right top]
        refine ⟨top, fun x hx j lx hj => ?_, attained.imp id fun ⟨x, hx, h⟩ => ⟨x, by simp [hx], h⟩⟩
        rcases List.mem_cons.1 hx with rfl | hx
        · simp [hc] at hj
        · exact caps x hx j lx hj
      · simp only [Option.getD_some]
        refine ⟨by omega, fun x hx j lx hj => ?_, ?_⟩
        · rcases List.mem_cons.1 hx with rfl | hx
          · rw [hc] at hj; cases hj; exact Nat.min_le_left _ _
          · exact Nat.le_trans (Nat.min_le_right _ _) (caps x hx j lx hj)
        · rcases Nat.le_total k (derateTerm l m) with h | h
          · rw [Nat.min_eq_left h]; exact .inr ⟨r, by simp, lr, hc⟩
          · rw [Nat.min_eq_right h]; exact attained.imp id fun ⟨x, hx, h⟩ => ⟨x, by simp [hx], h⟩
    · rw [if_neg lr, Nat.min_eq_right top]
      refine ⟨top, fun x hx j lx hj => ?_, attained.imp id fun ⟨x, hx, h⟩ => ⟨x, by simp [hx], h⟩⟩
      rcases List.mem_cons.1 hx with rfl | hx
      · exact absurd lx lr
      · exact caps x hx j lx hj

theorem holdPresent_iff (l : List AlarmRecord) (m : Motion) :
    holdPresent l m = true ↔ ∃ x ∈ l, x.cls = .hold ∧ x.inEffect = true ∧ x.scope.get m = true := by
  simp [holdPresent, and_assoc]

theorem tripPresent_iff (l : List AlarmRecord) : tripPresent l = true ↔ ∃ x ∈ l, x.cls = .stop ∧ x.inEffect = true := by
  simp [tripPresent]

end Sys2Proof.Machine
end

