-- ==== Sys2Proof/Laws/Cascade.lean ====
section
/-!
SUPPORT. The deliveries of an event come to an end: every delivery has a weight, every state a potential, and a delivery
performed takes more from the two than what it hands on puts back. With that, what holds after each delivery holds after the
event.
-/

namespace Sys2Proof.Machine

/-! ### Weights -/

/-- What a delivery can cost: one more than what it may hand on, but for what a change of state pays for. -/
def Act.weight : Act → Nat
  | .sample _ _ _ => 12
  | .maintSample => 12
  | .faultState _ => 4
  | .tableRaise _ => 7
  | .tableClear _ => 7
  | .deliver => 6
  | .receiveChannel _ => 1
  | .receiveWalk => 1
  | .receiveSupervisor => 1
  | .reformChannel _ => 1
  | .reformWalk => 1
  | .channelChanged _ => 15
  | .walkChanged => 18
  | .parkedLook _ => 1
  | .commitTest => 1
  | .holdEffective => 1
  | .tripChannel _ => 1
  | .tripWalk => 1
  | .tripFlag => 1
  | .portLost _ => 1
  | .reply _ _ => 90
  | .beginWalk => 91
  | .beginRecovery => 91
  | .formPosition _ => 14
  | .envelopeSample => 13
  | .nogoSample => 13
  | .parkArrival _ => 15
  | .parkDecide _ => 13
  | .haltClose => 1

/-- The weight of a list of deliveries. -/
def weightOf : List Act → Nat
  | [] => 0
  | a :: rest => a.weight + weightOf rest

@[simp] theorem weightOf_nil : weightOf [] = 0 := rfl
@[simp] theorem weightOf_cons (a : Act) (l : List Act) : weightOf (a :: l) = a.weight + weightOf l := rfl

@[simp] theorem weightOf_append (l m : List Act) : weightOf (l ++ m) = weightOf l + weightOf m := by
  induction l with
  | nil => simp
  | cons a l ih => simp [ih]; omega

/-- How far a channel can still fall without a reply. -/
def ChannelState.rank : ChannelState → Nat
  | .closed => 0
  | .opening => 2
  | .running => 2
  | .parking => 1
  | .parked => 3
  | .closing => 1

/-- How far the walk can still fall without a reply. -/
def WalkState.rank : WalkState → Nat
  | .idle => 0
  | .opening => 4
  | .stepping => 4
  | .halting => 3
  | .stopped => 1
  | .maint => 4
  | .closing => 2

/-- How far the Supervisor can still fall. -/
def OperatingState.rank : OperatingState → Nat
  | .start => 1
  | .ready => 1
  | .tripped => 0

/-- What the changes of state still possible can pay. -/
def State.potential (s : State) : Nat :=
  27 * (s.channels.hoist.state.rank + s.channels.drag.state.rank + s.channels.swing.state.rank) + 18 * s.walk.state.rank +
    5 * s.sup.operating.rank

/-- The potential is at most 320. -/
theorem State.potential_le (s : State) : s.potential ≤ 320 := by
  have c : ∀ x : ChannelState, x.rank ≤ 3 := by intro x; cases x <;> decide
  have w : ∀ x : WalkState, x.rank ≤ 4 := by intro x; cases x <;> decide
  have o : ∀ x : OperatingState, x.rank ≤ 1 := by intro x; cases x <;> decide
  have := c s.channels.hoist.state
  have := c s.channels.drag.state
  have := c s.channels.swing.state
  have := w s.walk.state
  have := o s.sup.operating
  unfold State.potential
  omega

/-! ### Potential after the operations -/

theorem State.potential_congr {s t : State} (h : t.channels = s.channels) (hw : t.walk.state = s.walk.state)
    (ho : t.sup.operating = s.sup.operating) : t.potential = s.potential := by
  unfold State.potential; rw [h, hw, ho]

/-- Replacing a channel record moves the potential by the ranks of the two states. -/
theorem State.potential_setChannel (s : State) (a : Axis) (c : Channel) :
    (s.setChannel a c).potential + 27 * (s.channels.get a).state.rank = s.potential + 27 * c.state.rank := by
  cases a <;> simp only [State.potential, State.setChannel, PerAxis.set, PerAxis.get] <;> omega

/-- Replacing the walk record moves the potential by the ranks of the two states. -/
theorem State.potential_setWalk (s : State) (w : WalkChannel) :
    (s.setWalk w).potential + 18 * s.walk.state.rank = s.potential + 18 * w.state.rank := by
  simp only [State.potential, State.setWalk]; omega

@[simp] theorem State.potential_setFlag (s : State) (f : EventFlag) : (s.setFlag f).potential = s.potential := rfl
@[simp] theorem State.potential_setDef (s : State) (c : Code) (d : Definition) : (s.setDef c d).potential = s.potential := rfl
@[simp] theorem State.potential_setTable (s : State) (t : AlarmTable) : (s.setTable t).potential = s.potential := rfl
@[simp] theorem State.potential_setBanks (s : State) (b : ConfigBanks) : (s.setBanks b).potential = s.potential := rfl
@[simp] theorem State.potential_setAsu (s : State) (u : AxisUnit) : (s.setAsu u).potential = s.potential := rfl
@[simp] theorem State.potential_setPlan (s : State) (p : List Leg) : (s.setPlan p).potential = s.potential := rfl
@[simp] theorem State.potential_setPort (s : State) (m : Motion) (p : Port) : (s.setPort m p).potential = s.potential := rfl
@[simp] theorem State.potential_setPins (s : State) (p : Pins) : (s.setPins p).potential = s.potential := rfl
@[simp] theorem State.potential_setRope (s : State) (r : Rope) (x : RopeAxis) : (s.setRope r x).potential = s.potential := by
  cases r <;> rfl

theorem OnlyTable.potential {s t : State} (h : OnlyTable s t) : t.potential = s.potential :=
  State.potential_congr h.channels (by rw [h.walk]) (by rw [h.sup])

/-- An effect with its deliveries fits a budget: what it hands on and the potential left stay below it. -/
def Fits (r : State × List Act) (budget : Nat) : Prop := r.1.potential + weightOf r.2 ≤ budget

theorem Fits.mono {r : State × List Act} {m n : Nat} (h : Fits r m) (k : m ≤ n) : Fits r n := Nat.le_trans h k

theorem fits_nothing (s : State) {n : Nat} (h : s.potential ≤ n) : Fits (s, []) n := h

/-! ### Channels -/

theorem fits_closeTo (s : State) (a : Axis) (cause : HaltCause) (h : (s.channel a).state ≠ .closed) :
    Fits (s.closeTo a cause) s.potential := by
  have k := State.potential_setChannel s a ((s.channel a).close cause)
  have r : 1 ≤ (s.channels.get a).state.rank := by
    revert h; unfold State.channel; cases (s.channels.get a).state <;> simp [ChannelState.rank]
  have z : ((s.channel a).close cause).state.rank = 0 := rfl
  unfold Fits State.closeTo
  simp only [weightOf_cons, weightOf_nil, Act.weight]
  split <;> simp only [State.potential_setFlag] <;> omega

theorem fits_enterOpening (s : State) (a : Axis) (h : (s.channel a).state = .parked) :
    Fits (s.enterOpening a) s.potential := by
  have k := State.potential_setChannel s a
    { s.channel a with
      state := .opening, enable := true, brake := .release, reference := 0, permitted := 0, openTimer := some s.brakeTimer }
  have r : (s.channels.get a).state = .parked := h
  simp only [r, ChannelState.rank] at k
  unfold Fits State.enterOpening
  simp only [weightOf_cons, weightOf_nil, Act.weight]
  omega

theorem fits_enterParking (s : State) (a : Axis) (h : (s.channel a).state = .opening ∨ (s.channel a).state = .running) :
    Fits (s.enterParking a) s.potential := by
  have k := State.potential_setChannel s a
    { s.channel a with
      state := .parking, permitted := 0, openTimer := none, restTimer := s.restTimerAt (s.channel a).reference }
  have r : (s.channels.get a).state.rank = 2 := by
    unfold State.channel at h; rcases h with h | h <;> rw [h] <;> rfl
  rw [r] at k
  simp only [ChannelState.rank] at k
  unfold Fits State.enterParking
  simp only [weightOf_cons, weightOf_nil, Act.weight]
  omega

theorem fits_lookParked (s : State) (a : Axis) : Fits (s.lookParked a) s.potential := by
  unfold State.lookParked
  dsimp only
  split
  · exact fits_nothing s (Nat.le_refl _)
  · rename_i h
    have h : (s.channel a).state = .parked := by simpa using h
    split
    · exact fits_enterOpening s a h
    · split
      · exact fits_closeTo s a _ (by rw [h]; decide)
      · exact fits_nothing s (Nat.le_refl _)

/-- A record that keeps its state keeps the potential. -/
theorem State.potential_sameState (s : State) (a : Axis) (c : Channel) (h : c.state = (s.channel a).state) :
    (s.setChannel a c).potential = s.potential := by
  have k := State.potential_setChannel s a c
  unfold State.channel at h
  rw [h] at k; omega

@[simp] theorem State.channel_setChannel_same (s : State) (a : Axis) (c : Channel) : (s.setChannel a c).channel a = c := by
  simp [State.channel]

theorem fits_reform (s : State) (a : Axis) : Fits (s.reform a) s.potential := by
  have k := State.potential_sameState s a { s.channel a with holds := s.holdSet (s.channel a) } rfl
  unfold State.reform
  dsimp only
  split
  · rename_i h
    split
    · exact (fits_enterParking _ a (by simp [h])).mono (Nat.le_of_eq k)
    · exact fits_nothing _ (Nat.le_of_eq k)
  · rename_i h
    split
    · exact (fits_enterParking _ a (by simp [h])).mono (Nat.le_of_eq k)
    · exact fits_nothing _ (Nat.le_of_eq k)
  · split
    · exact fits_nothing _ (Nat.le_of_eq k)
    · exact (fits_lookParked _ a).mono (Nat.le_of_eq k)
  · exact fits_nothing _ (Nat.le_of_eq k)
  · exact fits_nothing _ (Nat.le_of_eq k)
  · exact fits_nothing _ (Nat.le_of_eq k)

theorem fits_receiveAt (s : State) (a : Axis) : Fits (s.receiveAt a) s.potential := by
  unfold State.receiveAt
  exact (fits_reform _ a).mono (Nat.le_of_eq (State.potential_sameState s a _ rfl))

theorem State.potential_sendFinal (s : State) (m : Motion) : (s.sendFinal m).potential = s.potential := by
  unfold State.sendFinal State.sendReference; split <;> rfl

theorem fits_tripAt (s : State) (a : Axis) : Fits (s.tripAt a) s.potential := by
  unfold State.tripAt
  split
  · exact fits_nothing s (Nat.le_refl _)
  · rename_i h
    have := fits_closeTo s a .trip h
    unfold Fits at this ⊢
    simpa [State.potential_sendFinal] using this

theorem fits_portLostAt (s : State) (a : Axis) : Fits (s.portLostAt a) s.potential := by
  unfold State.portLostAt
  split
  · exact fits_nothing s (Nat.le_refl _)
  · rename_i h; exact fits_closeTo s a _ h

theorem fits_replyAt (s : State) (a : Axis) (d : DriveStatus) : Fits (s.replyAt a d) (s.potential + 89) := by
  have same (c : Channel) (h : c.state = (s.channel a).state) : Fits (s.setChannel a c, []) (s.potential + 89) :=
    fits_nothing _ (by rw [State.potential_sameState s a c h]; omega)
  have none : Fits (s, []) (s.potential + 89) := fits_nothing s (by omega)
  unfold State.replyAt
  dsimp only
  split
  · rename_i h
    split
    · have k := State.potential_setChannel s a { s.channel a with state := .running, openTimer := Option.none }
      have r : (s.channels.get a).state = .opening := h
      simp only [r, ChannelState.rank] at k
      unfold Fits
      simp only [weightOf_cons, weightOf_nil, Act.weight]
      omega
    · exact none
  · rename_i h
    split
    · exact same _ rfl
    · split
      · have k := State.potential_setChannel s a
          { s.channel a with state := .parked, enable := false, reference := 0, permitted := 0 }
        have r : (s.channels.get a).state = .parking := h
        simp only [r, ChannelState.rank] at k
        unfold Fits State.enterParked
        simp only [weightOf_cons, weightOf_nil, Act.weight]
        omega
      · exact none
  · rename_i h
    split
    · exact same _ rfl
    · split
      · exact (fits_closeTo s a _ (by rw [h]; decide)).mono (by omega)
      · exact none
  · exact none
  · exact none
  · exact none

/-! ### The walk -/

/-- An entry into IDLE, from another state. -/
theorem fits_walkToIdle (s : State) (cause : HaltCause) (h : s.walk.state ≠ .idle) : Fits (s.walkToIdle cause) s.potential := by
  have k := State.potential_setWalk s (s.walk.idleRecord cause)
  have r : 1 ≤ s.walk.state.rank := by revert h; cases s.walk.state <;> simp [WalkState.rank]
  have z : (s.walk.idleRecord cause).state.rank = 0 := rfl
  unfold Fits State.walkToIdle
  simp only [weightOf_cons, weightOf_nil, Act.weight]
  split <;> simp only [State.potential_setFlag] <;> omega

/-- An entry into STOPPED, from a state above it. -/
theorem fits_walkToStopped (s : State) (cause : HaltCause) (h : 2 ≤ s.walk.state.rank) :
    Fits (s.walkToStopped cause) s.potential := by
  unfold Fits State.walkToStopped
  simp only [weightOf_cons, weightOf_nil, Act.weight, State.potential_setFlag]
  have k := State.potential_setWalk s
    { s.walk with
      state := .stopped, target := none, run := none, closing := none, permitted := 0, reference := 0
      enable := false, brake := .apply, openTimer := none, restTimer := none, lastCause := some cause }
  simp only [show WalkState.stopped.rank = 1 from rfl] at k
  omega

/-- An entry into CLOSING, from a state above it. -/
theorem fits_walkToClosing (s : State) (origin : ClosingOrigin) (cause : HaltCause) (h : 3 ≤ s.walk.state.rank) :
    Fits (s.walkToClosing origin cause) s.potential := by
  unfold Fits State.walkToClosing
  dsimp only
  simp only [weightOf_cons, weightOf_nil, Act.weight]
  generalize hw : ({ s.walk with
    state := .closing, target := none, run := none, closing := some ⟨origin, cause⟩, demand := 0
    demandTimer := none, permitted := 0, reference := (match origin with | .park => 0 | .other => s.walk.reference)
    openTimer := none
    restTimer := s.restTimerAt (match origin with | .park => 0 | .other => s.walk.reference) } : WalkChannel) = w
  have k := State.potential_setWalk s w
  have z : w.state.rank = 2 := by rw [← hw]; rfl
  omega

/-- An entry into HALTING, from a state above it. -/
theorem fits_walkToHalting (s : State) (dir : CamDir) (counted : Bool) (h : 4 ≤ s.walk.state.rank) :
    Fits (s.walkToHalting dir counted) s.potential := by
  unfold Fits State.walkToHalting
  simp only [weightOf_cons, weightOf_nil, Act.weight]
  have k := State.potential_setWalk s
    { s.walk with state := .halting, target := none, run := some ⟨dir, counted, false⟩, openTimer := none }
  simp only [show WalkState.halting.rank = 3 from rfl] at k
  omega

theorem State.potential_sameWalk (s : State) (w : WalkChannel) (h : w.state = s.walk.state) :
    (s.setWalk w).potential = s.potential := by
  have k := State.potential_setWalk s w
  rw [h] at k; omega

theorem fits_haltWalk (s : State) (cause : HaltCause) : Fits (s.haltWalk cause) s.potential := by
  have none : Fits (s, []) s.potential := fits_nothing s (Nat.le_refl _)
  unfold State.haltWalk
  split
  · rename_i h
    unfold State.haltOpening
    split
    · exact fits_nothing _ (Nat.le_of_eq (State.potential_sameWalk s _ rfl))
    · exact none
    · exact fits_walkToClosing s _ _ (by rw [h]; decide)
    · exact fits_walkToClosing s _ _ (by rw [h]; decide)
    · exact none
  · rename_i h
    unfold State.haltStepping
    split
    · exact fits_walkToClosing s _ _ (by rw [h]; decide)
    · split <;> exact fits_walkToHalting s _ _ (by rw [h]; decide)
  · rename_i h
    exact fits_walkToClosing s _ _ (by rw [h]; decide)
  all_goals exact none

theorem fits_reformHalts (s : State) : Fits s.reformHalts s.potential := by
  have k := State.potential_sameWalk s { s.walk with halts := ⟨s.holdAll, s.walk.alarmHold⟩ } rfl
  unfold State.reformHalts
  dsimp only
  split
  · exact (fits_haltWalk _ _).mono (Nat.le_of_eq k)
  · exact fits_nothing _ (Nat.le_of_eq k)

theorem fits_receiveAtWalk (s : State) : Fits s.receiveAtWalk s.potential := by
  unfold State.receiveAtWalk
  exact (fits_reformHalts _).mono (Nat.le_of_eq (State.potential_sameWalk s _ rfl))

theorem fits_tripAtWalk (s : State) : Fits s.tripAtWalk s.potential := by
  have none : Fits (s, []) s.potential := fits_nothing s (Nat.le_refl _)
  have stop (h : 2 ≤ s.walk.state.rank) :
      Fits ((s.walkToStopped .trip).1.sendFinal .walk, (s.walkToStopped .trip).2) s.potential := by
    have := fits_walkToStopped s .trip h
    unfold Fits at this ⊢
    simpa only [State.potential_sendFinal] using this
  have idle (h : s.walk.state ≠ .idle) :
      Fits ((s.walkToIdle .trip).1.sendFinal .walk, (s.walkToIdle .trip).2) s.potential := by
    have := fits_walkToIdle s .trip h
    unfold Fits at this ⊢
    simpa only [State.potential_sendFinal] using this
  unfold State.tripAtWalk
  dsimp only
  split
  · exact none
  · exact none
  · rename_i h; exact stop (by rw [h]; decide)
  · rename_i h; exact stop (by rw [h]; decide)
  · rename_i h; exact idle (by rw [h]; decide)
  · rename_i h
    split
    · exact idle (by rw [h]; decide)
    · exact stop (by rw [h]; decide)
  · rename_i h
    split
    · split
      · exact idle (by rw [h]; decide)
      · exact stop (by rw [h]; decide)
    · exact idle (by rw [h]; decide)
    · exact idle (by rw [h]; decide)

theorem fits_portLostAtWalk (s : State) : Fits s.portLostAtWalk s.potential := by
  unfold State.portLostAtWalk
  split
  · exact fits_nothing s (Nat.le_refl _)
  · rename_i h
    have := fits_walkToIdle s .port h
    unfold Fits at this ⊢
    simpa using this

/-- A confirmed opening: its target's entry, with at most one failed check or one park arrival. -/
theorem fits_walkConfirmed (s : State) (h : s.walk.state = .opening) : Fits s.walkConfirmed (s.potential + 89) := by
  have k := State.potential_sameWalk s { s.walk with openTimer := none } rfl
  have g : (s.setWalk { s.walk with openTimer := none }).walk.state = .opening := h
  unfold State.walkConfirmed
  dsimp only
  generalize s.setWalk { s.walk with openTimer := none } = u at k g
  have closing (o : ClosingOrigin) (c : HaltCause) (n : Int) :
      Fits ((u.walkToClosing o c).1, walkFailure n :: (u.walkToClosing o c).2) (s.potential + 89) := by
    have := fits_walkToClosing u o c (by rw [g]; decide)
    unfold Fits at this ⊢
    simp only [weightOf_cons, walkFailure, Act.weight]
    omega
  have stopped (c : HaltCause) (n : Int) :
      Fits ((u.walkToStopped c).1, walkFailure n :: (u.walkToStopped c).2) (s.potential + 89) := by
    have := fits_walkToStopped u c (by rw [g]; decide)
    unfold Fits at this ⊢
    simp only [weightOf_cons, walkFailure, Act.weight]
    omega
  have entered (st : WalkState) (hs : st.rank = 4) (acts : List Act) (ha : weightOf acts ≤ 15) :
      Fits (u.setWalk { u.walk with state := st, target := none }, .walkChanged :: acts) (s.potential + 89) := by
    have q := State.potential_setWalk u { u.walk with state := st, target := none }
    simp only [g, hs] at q
    simp only [WalkState.rank] at q
    unfold Fits
    simp only [weightOf_cons, Act.weight]
    omega
  split
  · split
    · exact closing _ _ _
    · exact entered .stepping rfl [] (by simp)
  · split
    · refine entered .stepping rfl _ ?_
      split <;> simp [Act.weight]
    · exact stopped _ _
  · split
    · split
      · exact (fits_walkToHalting u _ _ (by rw [g]; decide)).mono (by omega)
      · exact fits_nothing u (by omega)
    · exact stopped _ _
  · exact entered .maint rfl [] (by simp)
  · exact fits_nothing u (by omega)

theorem fits_replyAtWalk (s : State) (d : DriveStatus) : Fits (s.replyAtWalk d) (s.potential + 89) := by
  have none : Fits (s, []) (s.potential + 89) := fits_nothing s (by omega)
  unfold State.replyAtWalk
  dsimp only
  split
  · rename_i h
    split
    · exact fits_walkConfirmed s h
    · exact none
  · rename_i h
    split
    · exact fits_nothing _ (Nat.le_trans (Nat.le_of_eq (State.potential_sameWalk s _ rfl)) (by omega))
    · split
      · unfold State.walkClosed
        split
        · split
          · exact (fits_walkToIdle s _ (by rw [h]; decide)).mono (by omega)
          · exact (fits_walkToStopped s _ (by rw [h]; decide)).mono (by omega)
        · exact (fits_walkToIdle s _ (by rw [h]; decide)).mono (by omega)
        · exact none
      · exact none
  all_goals exact none

/-- An entry into OPENING raises the potential by four ranks at most. -/
theorem fits_walkToOpening (s : State) (target : WalkTarget) (run : Option WalkRun) :
    Fits (s.walkToOpening target run) (s.potential + 90) := by
  unfold Fits State.walkToOpening
  simp only [weightOf_cons, weightOf_nil, Act.weight]
  have k := State.potential_setWalk s
    { s.walk with
      state := .opening, target := some target, run := run, enable := true, brake := .release, reference := 0
      permitted := 0, openTimer := some s.brakeTimer }
  simp only [show WalkState.opening.rank = 4 from rfl] at k
  omega

/-- The count of a step leaves channels, walk and Supervisor, and hands on one test at most. -/
theorem fits_countStep (s : State) (dir : CamDir) : Fits (s.countStep dir) (s.potential + 1) := by
  unfold State.countStep
  split
  · split
    · split
      · unfold Fits; simp [Act.weight]
      · unfold Fits; simp
    · exact fits_nothing s (by omega)
  · exact fits_nothing s (by omega)

theorem fits_arriveAtPark (s : State) (dir : CamDir) : Fits (s.arriveAtPark dir) (s.potential + 14) := by
  have none : Fits (s, []) (s.potential + 14) := fits_nothing s (by omega)
  have k := fits_countStep s dir
  unfold Fits at k
  unfold State.arriveAtPark
  split
  · unfold Fits; simp only [weightOf_append, weightOf_cons, weightOf_nil, Act.weight]; omega
  · split
    · unfold Fits; simp only [weightOf_append, weightOf_cons, weightOf_nil, Act.weight]; omega
    · exact none
  all_goals exact none

theorem fits_decideAtPark (s : State) (dir : CamDir) : Fits (s.decideAtPark dir) (s.potential + 12) := by
  have none : Fits (s, []) (s.potential + 12) := fits_nothing s (by omega)
  unfold State.decideAtPark
  split
  · exact none
  · rename_i h
    have h : s.walk.state = .stepping := by simpa using h
    have failing (n : Int) :
        Fits ((s.walkToClosing .park .precondition).1, walkFailure n :: (s.walkToClosing .park .precondition).2)
          (s.potential + 12) := by
      have := fits_walkToClosing s .park .precondition (by rw [h]; decide)
      unfold Fits at this ⊢
      simp only [weightOf_cons, walkFailure, Act.weight]
      omega
    split
    · exact failing 6
    · split
      · exact failing 5
      · split
        · exact (fits_walkToClosing s _ _ (by rw [h]; decide)).mono (by omega)
        · split
          · exact (fits_walkToClosing s _ _ (by rw [h]; decide)).mono (by omega)
          · exact fits_nothing _ (Nat.le_trans (Nat.le_of_eq (State.potential_sameWalk s _ rfl)) (by omega))

theorem fits_endHalt (s : State) : Fits s.endHalt s.potential := by
  unfold State.endHalt
  split
  · rename_i h; exact fits_walkToClosing s _ _ (by rw [h]; decide)
  · exact fits_nothing s (Nat.le_refl _)

/-! ### The other blocks -/

theorem fits_takeSample (s : State) (c : Code) (raw : Bool) (v : Option Int) : Fits (s.takeSample c raw v) (s.potential + 11) := by
  unfold State.takeSample
  dsimp only
  split
  · exact fits_nothing _ (by simp)
  · split
    · split
      · unfold Fits State.raiseCode
        dsimp only
        split <;> simp [Act.weight]
      · unfold Fits State.clearCode
        dsimp only
        split <;> simp [Act.weight]
    · exact fits_nothing _ (by simp)

theorem fits_faultAt (s : State) (a : Axis) : Fits (s.faultAt a) (s.potential + 3) := by
  unfold State.faultAt
  split
  · split <;>
      simp [Fits, State.unreferenceRope, State.unreferenceSwing, reformAll, Act.weight]
  · exact fits_nothing s (by omega)

theorem fits_receiveAtSupervisor (s : State) : Fits s.receiveAtSupervisor s.potential := by
  unfold State.receiveAtSupervisor
  dsimp only
  split
  · rename_i h
    have r : s.sup.operating.rank = 1 := by
      have := h.2; revert this; cases s.sup.operating <;> simp [OperatingState.rank]
    unfold Fits
    simp only [weightOf_cons, weightOf_nil, Act.weight]
    have : s.potential = 27 * (s.channels.hoist.state.rank + s.channels.drag.state.rank + s.channels.swing.state.rank) +
        18 * s.walk.state.rank + 5 * s.sup.operating.rank := rfl
    rw [r] at this
    simp only [State.potential, State.setSup, State.setPins, show OperatingState.tripped.rank = 0 from rfl]
    omega
  · exact fits_nothing _ (Nat.le_of_eq (State.potential_congr rfl rfl rfl))

theorem State.potential_testCommit (s : State) : s.testCommit.potential = s.potential := by
  unfold State.testCommit
  split
  · rfl
  · split
    · unfold State.completeCommit State.handGeneration
      dsimp only
      split
      · rename_i h
        have h : s.sup.operating = .start := h.1
        unfold State.potential
        simp [State.setSup, State.setPins, h, OperatingState.rank]
      · simp
    · rfl

theorem State.potential_evaluateHold (s : State) : s.evaluateHold.potential = s.potential := by
  unfold State.evaluateHold; dsimp only; split <;> rfl

theorem fits_formAt (s : State) (a : Axis) : Fits (s.formAt a) (s.potential + 13) := by
  have pay (r : Rope) : Fits (s.formPayout r) (s.potential + 13) := by
    unfold State.formPayout; dsimp only
    split
    · unfold Fits; simp [Act.weight]
    · unfold Fits; simp [Act.weight]
  unfold State.formAt
  split
  · exact pay _
  · exact pay _
  · unfold Fits State.formAngle
    dsimp only
    split <;> simp [Act.weight]

/-! ### Every delivery -/

/-- A delivery performed leaves less than it found: potential and weights together fall. -/
theorem perform_fits (act : Act) (s : State) : Fits (perform act s) (s.potential + (act.weight - 1)) := by
  cases act with
  | sample c raw v => exact fits_takeSample s c raw v
  | maintSample => exact fits_takeSample s _ _ _
  | faultState a => exact fits_faultAt s a
  | tableRaise c =>
    unfold Fits perform
    simp [(onlyTable_raiseRecord s c).potential, Act.weight]
  | tableClear c =>
    unfold Fits perform
    simp [(onlyTable_clearRecord s c).potential, Act.weight]
  | deliver => unfold Fits perform State.endTableEvent; simp [Act.weight]
  | receiveChannel a => exact (fits_receiveAt s a).mono (by omega)
  | receiveWalk => exact (fits_receiveAtWalk s).mono (by omega)
  | receiveSupervisor => exact (fits_receiveAtSupervisor s).mono (by omega)
  | reformChannel a => exact (fits_reform s a).mono (by omega)
  | reformWalk => exact (fits_reformHalts s).mono (by omega)
  | channelChanged a => simp [Fits, perform, Act.weight]
  | walkChanged => simp [Fits, perform, Act.weight]
  | parkedLook a => exact (fits_lookParked s a).mono (by omega)
  | commitTest => exact fits_nothing _ (by rw [State.potential_testCommit]; omega)
  | holdEffective => exact fits_nothing _ (by rw [State.potential_evaluateHold]; omega)
  | tripChannel a => exact (fits_tripAt s a).mono (by omega)
  | tripWalk => exact (fits_tripAtWalk s).mono (by omega)
  | tripFlag => exact fits_nothing _ (by simp)
  | portLost m =>
    cases m with
    | hoist => exact (fits_portLostAt s .hoist).mono (by omega)
    | drag => exact (fits_portLostAt s .drag).mono (by omega)
    | swing => exact (fits_portLostAt s .swing).mono (by omega)
    | walk => exact (fits_portLostAtWalk s).mono (by omega)
  | reply m d =>
    cases m with
    | hoist => exact fits_replyAt s .hoist d
    | drag => exact fits_replyAt s .drag d
    | swing => exact fits_replyAt s .swing d
    | walk => exact fits_replyAtWalk s d
  | beginWalk => exact fits_walkToOpening s _ _
  | beginRecovery => exact fits_walkToOpening s _ _
  | formPosition a => exact fits_formAt s a
  | envelopeSample =>
    unfold Fits perform State.envelopeActs
    dsimp only
    split <;> simp [Act.weight]
  | nogoSample => simp [Fits, perform, State.nogoAct, Act.weight]
  | parkArrival dir => exact fits_arriveAtPark s dir
  | parkDecide dir => exact fits_decideAtPark s dir
  | haltClose => exact (fits_endHalt s).mono (by omega)

/-- Every delivery weighs something. -/
theorem Act.weight_pos (a : Act) : 1 ≤ a.weight := by cases a <;> simp [Act.weight]

/-! ### Runs -/

@[simp] theorem run_nil (n : Nat) (s : State) : run n [] s = s := by cases n <;> rfl

theorem run_cons (n : Nat) (act : Act) (rest : List Act) (s : State) :
    run (n + 1) (act :: rest) s = run n ((perform act s).2 ++ rest) (perform act s).1 := rfl

@[simp] theorem settle_nothing (s : State) : settle (s, []) = s := by unfold settle; exact run_nil _ s

/-- A bound that is enough is as good as a larger one. -/
theorem run_longer : ∀ (n k : Nat) (acts : List Act) (s : State), s.potential + weightOf acts ≤ n →
    run (n + k) acts s = run n acts s := by
  intro n
  induction n with
  | zero =>
    intro k acts s h
    cases acts with
    | nil => simp
    | cons act rest => have := act.weight_pos; simp only [weightOf_cons] at h; omega
  | succ n ih =>
    intro k acts s h
    cases acts with
    | nil => simp
    | cons act rest =>
      rw [show n + 1 + k = (n + k) + 1 by omega, run_cons, run_cons]
      have fits := perform_fits act s
      have w := act.weight_pos
      unfold Fits at fits
      simp only [weightOf_cons] at h
      exact ih k _ _ (by simp only [weightOf_append]; omega)

/-- An event performs its first delivery, and then what that hands on before the rest. -/
theorem settle_cons (act : Act) (rest : List Act) (s : State) (h : weightOf (act :: rest) ≤ 3000) :
    settle (s, act :: rest) = settle ((perform act s).1, (perform act s).2 ++ rest) := by
  have low := s.potential_le
  have fits := perform_fits act s
  have w := act.weight_pos
  unfold Fits at fits
  simp only [weightOf_cons] at h
  unfold settle
  show run (4095 + 1) (act :: rest) s = run 4096 _ _
  rw [run_cons]
  exact (run_longer 4095 1 _ _ (by simp only [weightOf_append]; omega)).symm

/-- An event of one delivery is what that delivery does, with all that it hands on. -/
theorem settle_one (act : Act) (s : State) : settle (s, [act]) = settle (perform act s) := by
  rw [settle_cons _ _ _ (by cases act <;> simp [Act.weight])]
  simp

/-- Two bounds that are both enough give the same. -/
theorem run_enough {m n : Nat} {acts : List Act} {s : State} (hm : s.potential + weightOf acts ≤ m)
    (hn : s.potential + weightOf acts ≤ n) : run m acts s = run n acts s := by
  rcases Nat.le_total m n with h | h
  · obtain ⟨k, rfl⟩ := Nat.exists_eq_add_of_le h; exact (run_longer m k acts s hm).symm
  · obtain ⟨k, rfl⟩ := Nat.exists_eq_add_of_le h; exact run_longer n k acts s hn

theorem run_append (n : Nat) : ∀ (first more : List Act) (s : State) (k m : Nat), s.potential + weightOf first ≤ n →
    s.potential + weightOf (first ++ more) ≤ k → (run n first s).potential + weightOf more ≤ m →
    run k (first ++ more) s = run m more (run n first s) := by
  induction n with
  | zero =>
    intro first more s k m hn hk hm
    cases first with
    | nil => exact run_enough hk hm
    | cons act rest => have := act.weight_pos; simp only [weightOf_cons] at hn; omega
  | succ n ih =>
    intro first more s k m hn hk hm
    cases first with
    | nil => simp only [List.nil_append, run_nil] at hk hm ⊢; exact run_enough hk hm
    | cons act rest =>
      have w := act.weight_pos
      have fits := perform_fits act s
      unfold Fits at fits
      simp only [List.cons_append, weightOf_cons, weightOf_append] at hn hk
      cases k with
      | zero => omega
      | succ k =>
        rw [run_cons] at hm
        rw [List.cons_append, run_cons, run_cons, ← List.append_assoc]
        exact ih _ _ _ _ _ (by simp only [weightOf_append]; omega) (by simp only [weightOf_append]; omega) hm

/-- Deliveries in a row: the first ones settle with all that they hand on, and the others follow from the state they leave. -/
theorem settle_append (first more : List Act) (s : State) (hf : weightOf first ≤ 1000) (hm : weightOf more ≤ 1000) :
    settle (s, first ++ more) = settle (settle (s, first), more) := by
  have p := s.potential_le
  have q := (run Config.cascadeFuel first s).potential_le
  unfold settle
  apply run_append
  · show s.potential + _ ≤ 4096; omega
  · show s.potential + _ ≤ 4096; simp only [weightOf_append]; omega
  · show (run Config.cascadeFuel first s).potential + _ ≤ 4096; omega

/-- What every delivery keeps, whatever waits behind it, a whole event keeps. -/
theorem settle_keeps {P : State → Prop} (h : ∀ act s, P s → P (perform act s).1) (r : State × List Act) (h0 : P r.1) :
    P (settle r) := by
  have go : ∀ n acts s, P s → P (run n acts s) := by
    intro n
    induction n with
    | zero => intro _ _ hs; exact hs
    | succ n ih =>
      intro acts s hs
      cases acts with
      | nil => exact hs
      | cons act rest => exact ih _ _ (h act s hs)
  unfold settle
  exact go Config.cascadeFuel r.2 r.1 h0

/-- What holds of a state with the deliveries still waiting, and is kept as each is performed, holds at the end of the event
with none waiting, when the weights and the potential together stay below the bound. -/
theorem settle_ends {P : State → List Act → Prop}
    (h : ∀ act rest s, P s (act :: rest) → P (perform act s).1 ((perform act s).2 ++ rest)) (r : State × List Act)
    (h0 : P r.1 r.2) (hw : r.1.potential + weightOf r.2 ≤ Config.cascadeFuel) : P (settle r) [] := by
  have go : ∀ n acts s, P s acts → s.potential + weightOf acts ≤ n → P (run n acts s) [] := by
    intro n
    induction n with
    | zero =>
      intro acts s hs hn
      cases acts with
      | nil => exact hs
      | cons act rest => have := act.weight_pos; simp only [weightOf_cons] at hn; omega
    | succ n ih =>
      intro acts s hs hn
      cases acts with
      | nil => exact hs
      | cons act rest =>
        rw [run_cons]
        refine ih _ _ (h act rest s hs) ?_
        have k := perform_fits act s
        have w := act.weight_pos
        unfold Fits at k
        simp only [weightOf_append, weightOf_cons] at hn ⊢
        omega
  unfold settle
  exact go Config.cascadeFuel r.2 r.1 h0 hw

end Sys2Proof.Machine
end

