-- ==== Sys2Proof/Laws/Questions.lean ====
section
/-!
SUPPORT. What each question of the model asks, in the words the statements use: the walk checks, the sources of holds and
halts, the cursor of the list, the marks, the filter of the cam and the end of a reset.
-/

namespace Sys2Proof.Machine

/-! ### The walk checks (R104, R105) -/

theorem State.atPark_iff (s : State) : s.atPark = true ↔ s.asu.camReferenced = true ∧ s.asu.teeth = 0#6 := by
  simp [State.atPark]

theorem State.legFits_iff (s : State) (l : Leg) : s.legFits l = true ↔ s.windowAdmits s.banks.active l.window := by
  simp only [State.legFits, Bank.legAllowed, Window.covers, State.windowAdmits, Bank.window, State.angle, Bool.and_eq_true,
    beq_iff_eq]
  exact ⟨fun ⟨⟨a, b⟩, c⟩ => ⟨a, c, b⟩, fun ⟨a, c, b⟩ => ⟨⟨a, b⟩, c⟩⟩

theorem State.headFits_iff (s : State) :
    s.headFits = true ↔ ∃ l rest, s.plan = l :: rest ∧ s.windowAdmits s.banks.active l.window := by
  unfold State.headFits
  cases s.plan <;> simp [State.legFits_iff]

theorem State.tiltFits_iff (s : State) :
    s.tiltFits = true ↔
      s.asu.stale = false ∧ s.asu.roll.natAbs ≤ s.cfg .rollLimit ∧ s.asu.pitch.natAbs ≤ s.cfg .pitchLimit := by
  simp [State.tiltFits, and_assoc]

theorem State.inCarryBox_iff (s : State) :
    s.inCarryBox = true ↔
      s.cfg .carryDmin ≤ s.asu.drag.payout ∧ s.asu.drag.payout ≤ s.cfg .carryDmax ∧
        s.cfg .carryHmin ≤ s.asu.hoist.payout ∧ s.asu.hoist.payout ≤ s.cfg .carryHmax := by
  unfold State.inCarryBox
  simp only [Bool.and_eq_true, decide_eq_true_iff, and_assoc]
  exact Iff.rfl

theorem ChannelState.isResting_iff (x : ChannelState) : x.isResting = true ↔ x = .closed ∨ x = .parked := by
  cases x <;> decide

theorem State.allResting_iff (s : State) : s.allResting = true ↔ s.channelsRest := by
  simp only [State.allResting, State.channelsRest, Bool.and_eq_true, ChannelState.isResting_iff]
  exact ⟨fun h a => by cases a <;> first | exact h.1.1 | exact h.1.2 | exact h.2,
    fun h => ⟨⟨h .hoist, h .drag⟩, h .swing⟩⟩

/-! ### Hold and halt sources (R80, R111) -/

theorem Holds.any_eq_false (h : Holds) : h.any = false ↔ h = ⟨false, false, false, false⟩ := by
  rcases h with ⟨a, b, c, d⟩; revert a b c d; decide

theorem Halts.any_eq_false (h : Halts) : h.any = false ↔ h = ⟨false, false⟩ := by
  rcases h with ⟨a, b⟩; revert a b; decide

/-! ### The alarm table (R154, R155, R172) -/

theorem Code.all_sorted : (Code.all.map Code.num).Pairwise (· < ·) := by decide +kernel

theorem State.limitingMark_iff (s : State) :
    s.limitingMark = true ↔ ∃ c, (s.definition c).pendingMark = true ∧ (s.definition c).cls ≠ .note := by
  have limits (k : AlarmClass) : k.limits = true ↔ k ≠ .note := by cases k <;> decide
  simp only [State.limitingMark, List.any_eq_true, Bool.and_eq_true, limits]
  exact ⟨fun ⟨c, _, h⟩ => ⟨c, h⟩, fun ⟨c, h⟩ => ⟨c, Code.mem_all c, h⟩⟩

theorem codeBefore_of_not_mem (c : Code) (l : List Code) (h : c ∉ l) : codeBefore c l = none := by
  induction l with
  | nil => rfl
  | cons x l ih =>
    cases l with
    | nil => rfl
    | cons y l =>
      simp only [List.mem_cons, not_or] at h ih
      simp only [codeBefore, Ne.symm h.2.1, if_false]
      exact ih h.2

/-! ### The cam filter (R11) -/

theorem filterBefore_none (now : Nat) (old : List Nat) : filterBefore 0 now old = now := rfl

theorem filterBefore_all (n now : Nat) : filterBefore n now [] = now := by cases n <;> rfl

theorem filterBefore_older (n now old : Nat) (older : List Nat) :
    filterBefore (n + 1) now (old :: older) = filterBefore n old older := rfl

/-! ### The end of a reset (R184) -/

theorem State.tryEndReset_idle {s : State} (h : s.resetting = none) (n : Bool) (lines : ResetLines) :
    s.tryEndReset n lines = s := by
  simp [State.tryEndReset, h]

theorem State.tryEndReset_low (s : State) (lines : ResetLines) : s.tryEndReset false lines = s := by
  unfold State.tryEndReset; split <;> rfl

theorem State.tryEndReset_high {s : State} {cause : ResetCause} (h : s.resetting = some cause) (lines : ResetLines) :
    s.tryEndReset true lines = s.endReset cause lines := by
  simp [State.tryEndReset, h]

end Sys2Proof.Machine
end

