-- ==== Sys2Proof/Laws/Requests.lean ====
section
/-!
SUPPORT. What the Request Port does with a transaction, whoever owns the request, and what an event does in and out of a
reset.
-/

namespace Sys2Proof.Machine

/-! ### Requests -/

/-- A transaction that the port does not take only ends (R184, R187). -/
theorem State.request_untaken {s : State} (h : s.takesNothing = true) (x : Header) (code : Byte) (ok : Bool)
    (owner : State → Answer) : s.request x code ok owner = s.selectRise := by
  unfold State.request; rw [if_pos h]

/-- A taken frame with a length that is not allowed (R188 step 2). -/
theorem State.request_badLength {s : State} (h : s.takesNothing = false) (x : Header) (code : Byte) (owner : State → Answer) :
    s.request x code false owner = s.receiveFrame.respond ⟨x.tag, code, .badLength, []⟩ := by
  unfold State.request; rw [if_neg (by simp [h])]; rfl

/-- A taken frame of an allowed length: its owner carries it out and the response is formed (R186, R188 step 3). -/
theorem State.request_taken {s : State} (h : s.takesNothing = false) (x : Header) (code : Byte) (owner : State → Answer) :
    s.request x code true owner = State.finish (owner s.receiveFrame) x.tag code := by
  unfold State.request; rw [if_neg (by simp [h])]; rfl

/-- A request that hands nothing on leaves the owner's state, with the response in the buffer. -/
theorem finish_nothing (s : State) (x : Status) (payload : List Byte) (tag code : Byte) :
    State.finish ⟨s, [], x, payload⟩ tag code = s.respond ⟨tag, code, x, payload⟩ := by
  unfold State.finish; rw [settle_nothing]

/-- A good frame while the watchdog runs restarts it and samples nothing (R182). -/
theorem State.receiveFrame_running {s : State} (h : s.sup.lapsed = false) :
    s.receiveFrame =
      s.selectRise.setSup { s.sup with lapsed := false, watchdog := some (Timer.start (s.cfg .linkTimeout)) } := by
  have k : s.selectRise.sup.lapsed = false := h
  unfold State.receiveFrame State.restartWatchdog
  rw [k, if_neg (by decide), settle_nothing]
  rfl

/-- A good frame after a lapse samples LINK_LOST false (R182). -/
theorem State.receiveFrame_lapsed {s : State} (h : s.sup.lapsed = true) :
    s.receiveFrame =
      settle
        (s.selectRise.setSup { s.sup with lapsed := false, watchdog := some (Timer.start (s.cfg .linkTimeout)) },
          [.sample .linkLost false none]) := by
  have k : s.selectRise.sup.lapsed = true := h
  unfold State.receiveFrame State.restartWatchdog
  rw [k, if_pos rfl]
  rfl

/-! ### Responses -/

@[simp] theorem State.respond_buffer (s : State) (r : Response) : (s.respond r).rport.buffer = r := rfl
@[simp] theorem State.respond_previous (s : State) (r : Response) : (s.respond r).rport.previous = s.rport.buffer := rfl
@[simp] theorem State.respond_flags (s : State) (r : Response) : (s.respond r).rport.flags = s.rport.flags := rfl
@[simp] theorem State.respond_mask (s : State) (r : Response) : (s.respond r).rport.mask = s.rport.mask := rfl
@[simp] theorem State.respond_snapshot (s : State) (r : Response) : (s.respond r).rport.snapshot = s.rport.snapshot := rfl
@[simp] theorem State.respond_asu (s : State) (r : Response) : (s.respond r).asu = s.asu := rfl
@[simp] theorem State.respond_banks (s : State) (r : Response) : (s.respond r).banks = s.banks := rfl
@[simp] theorem State.respond_channels (s : State) (r : Response) : (s.respond r).channels = s.channels := rfl
@[simp] theorem State.respond_holdAll (s : State) (r : Response) : (s.respond r).holdAll = s.holdAll := rfl
@[simp] theorem State.respond_walk (s : State) (r : Response) : (s.respond r).walk = s.walk := rfl
@[simp] theorem State.respond_plan (s : State) (r : Response) : (s.respond r).plan = s.plan := rfl
@[simp] theorem State.respond_ports (s : State) (r : Response) : (s.respond r).ports = s.ports := rfl
@[simp] theorem State.respond_defs (s : State) (r : Response) : (s.respond r).defs = s.defs := rfl
@[simp] theorem State.respond_table (s : State) (r : Response) : (s.respond r).table = s.table := rfl
@[simp] theorem State.respond_sup (s : State) (r : Response) : (s.respond r).sup = s.sup := rfl
@[simp] theorem State.respond_settings (s : State) (r : Response) : (s.respond r).settings = s.settings := rfl
@[simp] theorem State.respond_pins (s : State) (r : Response) : (s.respond r).pins = s.pins := rfl
@[simp] theorem State.respond_resetting (s : State) (r : Response) : (s.respond r).resetting = s.resetting := rfl
@[simp] theorem State.respond_pending (s : State) (r : Response) : (s.respond r).pending = s.pending := rfl

/-! ### Events -/

/-- An event during a reset changes nothing (R184). -/
theorem State.event_inReset {s : State} (h : s.inReset = true) (f : State → State × List Act) : s.event f = s := by
  unfold State.event; rw [if_pos h]

/-- An event outside a reset is its effect with all that it hands on. -/
theorem State.event_live {s : State} (h : s.inReset = false) (f : State → State × List Act) : s.event f = settle (f s) := by
  unfold State.event; rw [if_neg (by simp [h])]

end Sys2Proof.Machine
end

