-- ==== Sys2Proof/Laws/Wire.lean ====
section
/-!
SUPPORT. Fields on the wire: lengths, and the reading of what was written (R197).
-/

namespace Sys2Proof.Machine

@[simp] theorem bytes16_length (w : Word16) : (bytes16 w).length = 2 := rfl
@[simp] theorem nat16_length (n : Nat) : (nat16 n).length = 2 := rfl
@[simp] theorem int16_length (v : Int) : (int16 v).length = 2 := rfl
@[simp] theorem bytes32_length (w : BitVec 32) : (bytes32 w).length = 4 := rfl

@[simp] theorem padTo_length (n : Nat) (bytes : List Byte) : (padTo n bytes).length = n := by
  unfold padTo; simp; omega

/-- The two bytes of a field, joined again. -/
@[simp] theorem join16_halves (w : Word16) : join16 (w.extractLsb' 8 8) (w.extractLsb' 0 8) = w := by
  unfold join16
  apply BitVec.eq_of_getLsbD_eq
  intro i hi
  rw [BitVec.getLsbD_append]
  by_cases h : i < 8
  · simp [h]
  · have e : 8 + (i - 8) = i := by omega
    have k : i - 8 < 8 := by omega
    simp [h, e, k]

/-- A row of bits as the number it spells, bit 0 first (R197). -/
theorem bitsByte_eq (l : List Bool) :
    bitsByte l = BitVec.ofNat 8 (l.foldr (fun x n => (if x then 1 else 0) + 2 * n) 0) := by
  induction l with
  | nil => rfl
  | cons b l ih =>
    simp only [bitsByte, List.foldr_cons, ih]
    generalize l.foldr (fun x n => (if x = true then 1 else 0) + 2 * n) 0 = n
    have shifted : BitVec.ofNat 8 n <<< 1 = BitVec.ofNat 8 (2 * n) := by
      apply BitVec.eq_of_toNat_eq; simp [Nat.shiftLeft_eq]; omega
    rw [shifted]
    cases b
    · simp
    · simp only [if_true]
      apply BitVec.eq_of_toNat_eq
      simp only [BitVec.toNat_or, BitVec.toNat_ofNat]
      rw [show (2 * n) % 2 ^ 8 = 2 * (n % 128) by omega, show (1 : Nat) % 2 ^ 8 = 1 by rfl]
      have odd := Nat.two_pow_add_eq_or_of_lt (i := 1) (b := 1) (by decide) (n % 128)
      simp at odd
      rw [← odd]; omega

/-- The two bytes of an unsigned field (R197). -/
theorem nat16_eq (n : Nat) : nat16 n = [BitVec.ofNat 8 (n / 256), BitVec.ofNat 8 n] := by
  simp only [nat16, bytes16]
  congr 1
  · apply BitVec.eq_of_toNat_eq; simp [Nat.shiftRight_eq_div_pow]; omega
  · congr 1; apply BitVec.eq_of_toNat_eq; simp

/-- The two bytes of a 16-bit word (R197). -/
theorem bytes16_eq (w : Word16) : bytes16 w = [BitVec.ofNat 8 (w.toNat / 256), BitVec.ofNat 8 w.toNat] := by
  rw [← nat16_eq]; simp [nat16]

/-- The two bytes of a signed field, in two's complement (R197). -/
theorem int16_eq (v : Int) : int16 v = [BitVec.ofInt 8 (v / 256), BitVec.ofInt 8 v] := by
  simp only [int16, bytes16]
  congr 1
  · apply BitVec.eq_of_toNat_eq; simp [Nat.shiftRight_eq_div_pow]; omega
  · congr 1; apply BitVec.eq_of_toNat_eq; simp; omega

/-- The four bytes of a 32-bit field (R197). -/
theorem bytes32_eq (n : Nat) :
    bytes32 (BitVec.ofNat 32 n) =
      [BitVec.ofNat 8 (n / 16777216), BitVec.ofNat 8 (n / 65536), BitVec.ofNat 8 (n / 256), BitVec.ofNat 8 n] := by
  have part (k : Nat) (h : k ≤ 24) : (BitVec.ofNat 32 n).extractLsb' k 8 = BitVec.ofNat 8 (n / 2 ^ k) := by
    apply BitVec.eq_of_toNat_eq
    have dvd : 2 ^ k * 2 ^ (32 - k) = 2 ^ 32 := by rw [← Nat.pow_add]; congr 1; omega
    have few : (2 : Nat) ^ 8 ∣ 2 ^ (32 - k) := Nat.pow_dvd_pow 2 (by omega)
    rw [BitVec.extractLsb'_toNat, BitVec.toNat_ofNat, BitVec.toNat_ofNat, Nat.shiftRight_eq_div_pow, ← dvd,
      Nat.mod_mul_right_div_self, Nat.mod_mod_of_dvd _ few]
  simp only [bytes32, part 24 (by decide), part 16 (by decide), part 8 (by decide), part 0 (by decide)]
  simp

/-- A response frame has 32 bytes (12.2). -/
theorem Response.bytes_length (r : Response) : r.bytes.length = 32 := by simp [Response.bytes]

/-- A drive frame has 8 bytes (R198). -/
theorem DriveFrame.bytes_length (f : DriveFrame) : f.bytes.length = 8 := by simp [DriveFrame.bytes]

end Sys2Proof.Machine

namespace Sys2Proof

/-- A request frame has 32 bytes (12.2). -/
theorem requestFrame_length (h : Header) (code : Byte) (payload : List Byte) : (requestFrame h code payload).length = 32 := by
  simp [requestFrame]

end Sys2Proof
end

