-- ==== Sys2Proof/Tests/Slice0.lean ====
section
/-!
SUPPORT. Tests of the model: the manual's worked examples, words of the wire formats written out by hand, the refusal of
ill-formed commands, and for each obligation with hypotheses a concrete state and operands that meet them.
-/

namespace Sys2Proof.Tests

set_option Elab.async false

open Sys2Proof Sys2Proof.Machine

/-! ## Helpers -/

/-- The state after a command. -/
def after (i : Instr) (s : State) : State :=
  match exec i s with
  | .next t => t
  | .fault _ => s
  | .refused _ => s

/-- A request header with tag 17 and a length. -/
def hd (n : Nat) : Header := ⟨17#8, BitVec.ofNat 8 n⟩

/-- A timer of 100 ms with 7 ms left. -/
def running : Option Timer := some ⟨100, 7⟩

/-- A flat curve from 0 to 20000. -/
def flat (y : Nat) : Curve := ⟨2, ((Vector.replicate 16 ⟨0, 0⟩).set 0 ⟨0, y⟩).set 1 ⟨20000, y⟩⟩

/-- A bank that passes validation: one window over every angle, with WALK, and envelopes of the whole range. -/
def openBank : Bank where
  windows := (Vector.replicate 16 ⟨false, 0#12, 0#12, 0, false, false⟩).set 0 ⟨true, 0#12, 0#12, 0, false, true⟩
  sectors := Vector.replicate 9 ⟨0, 1, 0, 20000, 1000, 1000, 1000⟩
  curves := ((Vector.replicate 16 ⟨0, Vector.replicate 16 ⟨0, 0⟩⟩).set 0 (flat 0)).set 1 (flat 20000)
  brake := 1

/-- A channel at rest with no hold source. -/
def closed : Channel := { Channel.blank with holds := ⟨false, false, false, false⟩ }

/-- A channel RUNNING in FOLLOW mode with demand 300 and reference 100. -/
def moving : Channel :=
  { closed with
    state := .running, demand := 300, demandTimer := running, permitted := 300, reference := 100, enable := true
    brake := .release }

/-- A port ENABLED with frame 4 outstanding. -/
def enabled : Port :=
  { Port.blank with
    state := .enabled, sequence := 4#8, outstanding := some ⟨4#8, false⟩, linkTimer := running
    lastCause := some .resetOk }

/-- A NOTE record of host code 40, unacknowledged. -/
def note40 : AlarmRecord := newRecord (.host 0) (Code.defaultDefinition (.host 0)) 9

/-- A part in READY at generation 1, all axes referenced, all ports ENABLED, the hoist RUNNING, one leg planned and one NOTE
record in the table. -/
def up : State :=
  { State.reset with
    asu := { AxisUnit.blank with
      hoist := ⟨0#32, 0#32, 3000, 3000, true⟩, drag := ⟨0#32, 0#32, 3000, 3000, true⟩
      swing := ⟨0, 0, 0#12, true⟩, camReferenced := true, stale := false }
    banks := { ConfigBanks.blank with active := openBank, generation := 1 }
    channels := ⟨moving, closed, closed⟩
    plan := [⟨1, 0, 2, 0, 600⟩]
    nextLegId := 2
    ports := ⟨enabled, enabled, enabled, enabled⟩
    defs := State.reset.defs.set (Code.idx (.host 0)) { Code.defaultDefinition (.host 0) with active := true, hostRaw := some true }
    table := { AlarmTable.blank with records := [note40], sequence := 9 }
    sup := { State.reset.sup with operating := .ready }
    pins := ⟨true, true, false, true⟩ }

/-- That part with another hoist channel record. -/
def upHoist (c : Channel) : State := { up with channels := ⟨c, closed, closed⟩ }

/-- That part with every channel at rest and another walk channel record. -/
def upWalk (w : WalkChannel) : State := { upHoist closed with walk := w }

/-- A walk channel STEPPING on a plain run. -/
def stepping : WalkChannel :=
  { WalkChannel.blank with
    state := .stepping, run := some ⟨.forward, true, false⟩, enable := true, brake := .release, reference := 500 }

/-- That part with another record in the table in place of the NOTE record. -/
def upRecord (r : AlarmRecord) : State := { up with table := { up.table with records := [r] } }

/-- The bytes of a status frame with an echo and a byte 2. -/
def statusBytes (echo b2 : Byte) : List Byte :=
  [0xC3#8, echo, b2, 0#8, 0#8, 0#8, 0#8, crc8 [0xC3#8, echo, b2, 0#8, 0#8, 0#8, 0#8]]

/-! ## Well-formed commands -/

theorem test_unknownRequest_refuses_a_code_of_12_3 :
    (Instr.unknownRequest 1#8 0x01#8).wellFormed = false ∧ (Instr.unknownRequest 1#8 0x4B#8).wellFormed = false ∧
      (Instr.unknownRequest 1#8 0x17#8).wellFormed = true := by decide +kernel

theorem test_shelveTimerExpiry_refuses_a_code_of_no_definition :
    (Instr.shelveTimerExpiry 0#8).wellFormed = false ∧ (Instr.shelveTimerExpiry 28#8).wellFormed = false ∧
      (Instr.shelveTimerExpiry 63#8).wellFormed = true := by decide +kernel

/-! ## Wire formats (chapter 12) -/

/-- The CRC-16 of R197 over the nine ASCII digits, the check value of CRC-16/CCITT-FALSE. -/
theorem test_crc16_check : crc16 [0x31#8, 0x32#8, 0x33#8, 0x34#8, 0x35#8, 0x36#8, 0x37#8, 0x38#8, 0x39#8] = 0x29B1#16 := by
  decide +kernel

/-- A reset frame of R198 with sequence 1: sync, sequence, kind, reference 0, marks 0, 0, CRC-8. -/
theorem test_reset_frame :
    (DriveFrame.bytes ⟨.reset, 1#8, 0, false, .apply⟩).take 7 = [0x3C#8, 0x01#8, 0x02#8, 0x00#8, 0x00#8, 0x00#8, 0x00#8] := by
  decide +kernel

/-- A REFERENCE frame of R198 with reference -400, enable on and brake OPEN. -/
theorem test_reference_frame :
    (DriveFrame.bytes ⟨.reference, 120#8, -400, true, .release⟩).take 7 =
      [0x3C#8, 0x78#8, 0x01#8, 0xFE#8, 0x70#8, 0x03#8, 0x00#8] := by decide +kernel

/-- A frame of 32 bytes: its first bytes, zeros, and its two CRC bytes. -/
def frame (head : List Byte) (hi lo : Byte) : List Byte := head ++ List.replicate (30 - head.length) 0#8 ++ [hi, lo]

/-- OPEN(DRAG, FOLLOW) with tag 21, as chapter 11's example sends it. -/
theorem test_word_open :
    decodeTransaction true ⟨0#4, false⟩ 256 (frame [0xA5#8, 0x15#8, 0x11#8, 0x02#8, 0x01#8, 0x00#8] 0xCC#8 0x4A#8) =
      .openChannel ⟨21#8, 2#8⟩ 1#8 0#8 := by decide +kernel

/-- DEMAND(0, -400, 0, 0) with tag 23. -/
theorem test_word_demand :
    decodeTransaction true ⟨0#4, false⟩ 256
        (frame [0xA5#8, 0x17#8, 0x10#8, 0x08#8, 0x00#8, 0x00#8, 0xFE#8, 0x70#8, 0x00#8, 0x00#8, 0x00#8, 0x00#8] 0x4C#8 0x9D#8) =
      .demand ⟨23#8, 8#8⟩ 0#16 (BitVec.ofInt 16 (-400)) 0#16 0#16 := by decide +kernel

/-- DEFINE(34, HOLD, H and S, 2, 1000, ACTIVE_LOW), as chapter 8's example sends it. -/
theorem test_word_define :
    decodeTransaction true ⟨0#4, false⟩ 256
        (frame [0xA5#8, 0x07#8, 0x40#8, 0x07#8, 0x22#8, 0x02#8, 0x05#8, 0x02#8, 0x03#8, 0xE8#8, 0x01#8] 0x97#8 0xA2#8) =
      .define ⟨7#8, 7#8⟩ 34#8 2#8 5#8 2#8 1000#16 1#8 := by decide +kernel

/-- STAGE_SECTOR(2, 1, 2, 1500, 4000, 1000, 800, 700), as chapter 4's example sends it. -/
theorem test_word_stageSector :
    decodeTransaction true ⟨0#4, false⟩ 256
        (frame
          [0xA5#8, 0x08#8, 0x21#8, 0x0D#8, 0x02#8, 0x01#8, 0x02#8, 0x05#8, 0xDC#8, 0x0F#8, 0xA0#8, 0x03#8, 0xE8#8, 0x03#8,
            0x20#8, 0x02#8, 0xBC#8] 0x88#8 0xAE#8) =
      .stageSector ⟨8#8, 13#8⟩ 2#8 1#8 2#8 1500#16 4000#16 1000#16 800#16 700#16 := by decide +kernel

/-- LEG_APPEND(4, 2, 600). -/
theorem test_word_legAppend :
    decodeTransaction true ⟨0#4, false⟩ 256 (frame [0xA5#8, 0x09#8, 0x30#8, 0x04#8, 0x04#8, 0x02#8, 0x02#8, 0x58#8] 0x8F#8 0x71#8) =
      .legAppend ⟨9#8, 4#8⟩ 4#8 2#8 600#16 := by decide +kernel

/-- PORT_RESET(2). -/
theorem test_word_portReset :
    decodeTransaction true ⟨0#4, false⟩ 256 (frame [0xA5#8, 0x0B#8, 0x18#8, 0x01#8, 0x02#8] 0x0D#8 0x39#8) = .portReset ⟨11#8, 1#8⟩ 2#8 := by
  decide +kernel

/-- Code 0x17 is in no row of 12.3; a wrong CRC byte is found. -/
theorem test_word_of_no_request :
    decodeTransaction true ⟨0#4, false⟩ 256 (frame [0xA5#8, 0x01#8, 0x17#8] 0x9D#8 0xEB#8) = .unknownRequest 1#8 0x17#8 ∧
      decodeTransaction true ⟨0#4, false⟩ 256 (frame [0xA5#8, 0x01#8, 0x17#8] 0x9D#8 0xEA#8) = .frameError .crc 1#8 0x17#8 := by decide +kernel

/-- The reset response of R190: sync 0x5A, zeros, and its CRC. -/
theorem test_reset_response : Response.reset.bytes = frame [0x5A#8] 0x86#8 0xF1#8 := by decide +kernel

/-! ## Sensing (1.9) -/

/-- The hoist as in 1.9: scale 1000, reference 3000 at count 125000, and a drum count. -/
def hoistAt (count : Nat) : State :=
  { State.reset with asu := { AxisUnit.blank with hoist := ⟨BitVec.ofNat 32 count, 125000#32, 3000, 3000, true⟩ } }

/-- The payouts of 1.9: 4623, 2301, 0 in range, and 0 saturated. -/
theorem test_hoist_payouts :
    (after (.axisSampleArrival .hoist false) (hoistAt 141237)).payoutH = 4623 ∧
      (after (.axisSampleArrival .hoist false) (hoistAt 118001)).payoutH = 2301 ∧
      (after (.axisSampleArrival .hoist false) (hoistAt 95000)).payoutH = 0 ∧
      (after (.axisSampleArrival .hoist false) (hoistAt 94990)).payoutH = 0 := by decide +kernel

/-- HOIST_RANGE of 1.9: false at exactly 0, true carrying -1 below it. -/
theorem test_hoist_range :
    ((after (.axisSampleArrival .hoist false) (hoistAt 95000)).definition .hoistRange).active = false ∧
      ((after (.axisSampleArrival .hoist false) (hoistAt 94990)).definition .hoistRange).raiseValue = some (-1) := by
  decide +kernel

/-- The swing angles of 1.9: 2024, 250, and one unit for three counts of 10000. -/
theorem test_swing_angles :
    swingAngle 16384 9096 5000 1000 = 2024#12 ∧ swingAngle 16384 2000 5000 1000 = 250#12 ∧
      swingAngle 10000 3 0 0 = 1#12 := by decide +kernel

/-- The swing index mark of 1.9: the count captured, the axis referenced at SWING_INDEX_ANGLE. -/
theorem test_swing_index :
    let s : State := { State.reset with
      asu := { AxisUnit.blank with swing := ⟨5000, 0, 0#12, false⟩ }, settings := State.reset.settings.set 4 1000 }
    (after .swingIndexMark s).asu.swing = ⟨5000, 5000, 1000#12, true⟩ := by decide +kernel

/-- A cam at park with some teeth counted. -/
def camAt (teeth : Teeth) : State :=
  { State.reset with asu := { AxisUnit.blank with teeth := teeth, camReferenced := true } }

/-- The lost tooth of 1.9: a pulse of 1.4 ms is discarded, a passage at 62 raises CAM_SYNC carrying 62, one at 63 does not. -/
theorem test_lost_tooth :
    (after (.camToothEdge .forward ⟨1400, 0⟩) (camAt 62#6)).asu.teeth = 62#6 ∧
      ((after (.camIndexPassage .forward ⟨2000, 0⟩) (camAt 62#6)).definition .camSync).raiseValue = some 62 ∧
      ((after (.camIndexPassage .forward ⟨2000, 0⟩) (camAt 63#6)).definition .camSync).active = false := by
  decide +kernel

/-- Rope and swing counts wrap (R2, R7). -/
theorem test_counts_wrap :
    (after (.ropeEncoderEdge .hoist .down) State.reset).asu.hoist.count = 0xFFFFFFFF#32 ∧
      (after (.swingEncoderEdge .down) State.reset).asu.swing.count = 16383 := by decide +kernel

/-- TUB_ROLL of 8.11.1: the third opposing sample in a row raises the code, carrying 360. -/
theorem test_roll_raises :
    let d := { Code.defaultDefinition .tubRoll with run := 2 }
    let s := State.reset.setDef .tubRoll d
    let t := after (.inclinometerFrame [0x96#8, 0x00#8, 0x00#8, 0x01#8, 0x68#8, 0xE4#8]) s
    t.asu.roll = 360 ∧ (t.definition .tubRoll).active = true ∧ (t.definition .tubRoll).raiseValue = some 360 := by
  decide +kernel

/-! ## Curves and permission (chapter 3) -/

/-- A curve from its points. -/
def curveOf (points : List Point) : Curve := ⟨points.length, Vector.ofFn fun i => points.getD i.val ⟨0, 0⟩⟩

/-- The bank of 3.10. -/
def bench : Bank where
  windows := (((Vector.replicate 16 ⟨false, 0#12, 0#12, 0, false, false⟩).set 0 ⟨true, 1024#12, 3840#12, 2, true, false⟩).set 1
    ⟨true, 0#12, 2048#12, 2, false, false⟩).set 2 ⟨true, 2048#12, 2048#12, 3, false, false⟩
  sectors := ((Vector.replicate 9 ⟨0, 0, 0, 0, 0, 0, 0⟩).set 2 ⟨1, 2, 1500, 9000, 1000, 800, 700⟩).set 3
    ⟨3, 4, 1500, 9000, 600, 600, 600⟩ |>.set 8 ⟨3, 4, 1500, 9000, 0, 0, 0⟩
  curves := (((((Vector.replicate 16 (curveOf [])).set 1 (curveOf [⟨1500, 2500⟩, ⟨5000, 1200⟩, ⟨9000, 800⟩])).set 2
    (curveOf [⟨1500, 6000⟩, ⟨6000, 9500⟩, ⟨9000, 12000⟩])).set 3 (curveOf [⟨1500, 500⟩, ⟨9000, 500⟩])).set 4
    (curveOf [⟨1500, 1600⟩, ⟨9000, 1600⟩])).set 5 (curveOf [⟨0, 0⟩, ⟨64, 50⟩, ⟨512, 1000⟩])
  brake := 5

/-- The machine of 3.10: D 4200, H 1650, swing at 700, the hoist RUNNING with a demand and a reference. -/
def atBench (demand reference : Int) : State :=
  { up with
    banks := { up.banks with active := bench }
    asu := { up.asu with
      hoist := ⟨0#32, 0#32, 1650, 1650, true⟩, drag := ⟨0#32, 0#32, 4200, 4200, true⟩, swing := ⟨0, 0, 700#12, true⟩ }
    channels := ⟨{ moving with demand := demand, reference := reference }, closed, closed⟩ }

/-- The limits and margins of 3.10.2. -/
theorem test_bench_limits :
    bench.hoistLimits (bench.sector 2) 4200 = some (1498, 8100) ∧ (atBench (-800) (-600)).hoistMargins = ⟨6450, 152⟩ := by
  decide +kernel

/-- The hoist of 3.10.3: permitted -531, and the reference from -600 to -550. -/
theorem test_bench_hoist :
    ((atBench (-800) (-600)).channelUpdate .hoist).1.channels.hoist.permitted = -531 ∧
      ((atBench (-800) (-600)).channelUpdate .hoist).2 = ⟨-550, true, .release⟩ := by decide +kernel

/-- The bank of 3.10 passes validation, and fails it with SR2's D limits turned round (R62). -/
theorem test_bench_validates :
    bench.validate = none ∧
      ({ bench with sectors := bench.sectors.set 2 ⟨1, 2, 9000, 1500, 0, 0, 0⟩ } : Bank).validate = some (.sectorRange, 2) := by
  decide +kernel

/-- The reversal of 5.11.2: 300 to 250 against a permitted -500, and from 0 to -20. -/
theorem test_reversal : ramp 20 50 300 (-500) = 250 ∧ ramp 20 50 0 (-500) = -20 ∧ taper 300 50 12 = 88 := by decide

/-- HOLD_ALL takes the RUNNING hoist to PARKING, and the first update there takes -531 to -481 (5.11.1). -/
theorem test_holdAll_parks :
    (after (.holdAll (hd 0)) up).channels.hoist.state = .parking ∧
      ((upHoist { moving with state := .parking, reference := -531, permitted := 0 }).channelUpdate .hoist).2.reference = -481 := by
  decide +kernel

/-! ## Ports and the walk (7.9, 6.13) -/

/-- Three misses of 7.9.2: the third disables the port, closes the channel with cause PORT and samples DRIVE_LOST. -/
theorem test_third_miss :
    let t := after (.linkPeriodEvent .hoist) { up with ports := { up.ports with hoist := { enabled with misses := 2 } } }
    t.ports.hoist.state = .disabled ∧ t.ports.hoist.lastCause = some .misses ∧ t.channels.hoist.state = .closed ∧
      t.channels.hoist.lastCause = some .port ∧ (t.definition (.driveLost .hoist)).active = true := by decide +kernel

/-- A good reply is judged by its echo (R131, R132). -/
theorem test_good_reply :
    (after (.driveStatusFrame .hoist (statusBytes 4#8 0x15#8)) up).ports.hoist.lastStatus =
        some ⟨true, false, true, false, true⟩ ∧
      (after (.driveStatusFrame .hoist (statusBytes 9#8 0x15#8)) up).ports.hoist.misses = 1 := by decide +kernel

/-- A halt by phase (6.13.2): at teeth 5 in reverse, at teeth 16 forward and counted, at park at once. -/
theorem test_halt_by_phase :
    let at' (t : Teeth) : State :=
      let s := upWalk stepping
      after (.walkHalt (hd 0)) { s with asu := { s.asu with teeth := t } }
    (at' 5#6).walk.run = some ⟨.reverse, false, false⟩ ∧ (at' 16#6).walk.run = some ⟨.forward, true, false⟩ ∧
      (at' 0#6).walk.state = .closing := by decide +kernel

/-- A forward park arrival counts the step of the head leg (R110). -/
theorem test_step_is_counted :
    let s := upWalk stepping
    (after (.camIndexPassage .forward ⟨9000, 0⟩) { s with asu := { s.asu with teeth := 63#6 } }).plan.map Leg.stepsDone =
      [1] := by decide +kernel

/-! ## Alarms (9.9, 10.8) -/

/-- A raise at sequence 41 takes 42; a revival counts a recurrence (9.9.1). -/
theorem test_raise_and_revival :
    let s : State := { State.reset with table := { AlarmTable.blank with sequence := 41 } }
    let t := s.raiseRecord (.input 1)
    (t.table.find (.input 1)).map AlarmRecord.seq = some 42 ∧
      (((t.setRecordState (.input 1) .clearedUnack).raiseRecord (.input 1)).table.find (.input 1)).map
        AlarmRecord.recurrence = some 1 := by decide +kernel

/-- A STOP record trips the part: SAFE_RUN low, the open hoist closed with cause TRIP (10.8). -/
theorem test_stop_trips :
    let s := up.setDef (.host 1) { Code.defaultDefinition (.host 1) with cls := .stop }
    let t := after (.raise (hd 1) 41#8 0#16) s
    t.sup.operating = .tripped ∧ t.pins.safeRun = false ∧ t.channels.hoist.lastCause = some .trip := by decide +kernel

/-- A short gap after a response offers the buffer before it (R186). -/
theorem test_short_gap :
    let s := after (.nop (hd 0)) State.reset
    (after (.selectFall 49) s).rport.sending = Response.reset.bytes ∧
      (after (.selectFall 50) s).rport.sending = s.rport.buffer.bytes := by decide +kernel

/-- A write of CAM_FILTER past its range is clamped to 3 (R195). -/
theorem test_set_clamps :
    (Setting.all.filter fun k => (Setting.row k).hi == 3) = [.camFilter] ∧ clampNat 0 3 9 = 3 := by decide +kernel

/-! ## Witnesses: states and operands that meet the hypotheses of the obligations

Each names its obligation. Where an obligation has clauses by the state the request finds, its witness shows one such state for
each, after the frame has been received. -/

/-- A RESET request with RESET_N high, P0 and P1 present and PARK active. -/
def resetWithPorts : ResetRequest := ⟨hd 0, true, ⟨3#4, true⟩⟩

/-- A part in a reset. -/
def inAReset : State := after .powerOn up

/-- The part takes a frame whose length field is right. -/
theorem up_takes (n : Nat) (h : n < 256) : up.takesFrame (hd n) n :=
  ⟨by decide +kernel, by show (BitVec.ofNat 8 n).toNat = n; rw [BitVec.toNat_ofNat]; omega⟩

theorem witness_StepRunsFrontCommand :
    ({ up with pending := [.silence (hd 0), .powerOn] } : State).pending = .silence (hd 0) :: [.powerOn] := by decide +kernel

theorem witness_IdleStepPassesAMillisecond :
    up.pending = [] ∧ up.inReset = false ∧ inAReset.pending = [] ∧ inAReset.inReset = true := by decide +kernel

theorem witness_NothingHappensInAReset :
    inAReset.takesNothing = true ∧ inAReset.inReset = true ∧ (requestOf (.nop (hd 0))).isSome = true ∧
      ({ up with rport := { up.rport with untaken := true } } : State).takesNothing = true ∧
      requestOf .linkWatchdogExpiry = none := by decide +kernel

theorem witness_EveryGoodFrameRestartsTheWatchdog :
    requestOf (.resume (hd 0)) = some (hd 0, 0x16#8) ∧ up.takesNothing = false ∧
      ({ up with sup := { up.sup with lapsed := true, watchdog := none } } : State).takesNothing = false := by decide +kernel

theorem witness_EveryRequestIsAnswered :
    requestOf (.alarmListFirst (hd 0)) = some (hd 0, 0x49#8) ∧ up.takesNothing = false := by decide +kernel

theorem witness_ARefusedRequestChangesNothing :
    requestOf (.resume (hd 9)) = some (hd 9, 0x16#8) ∧ up.takesNothing = false ∧
      exec (.resume (hd 9)) up = .next (after (.resume (hd 9)) up) ∧
      (after (.resume (hd 9)) up).rport.buffer.status.refuses = true ∧
      (after (.set (hd 3) 0xFF#8 0#16) up).rport.buffer.status.refuses = true :=
  ⟨by decide +kernel, by decide +kernel, rfl, by decide +kernel⟩

theorem witness_TransactionsAreChecked :
    up.takesNothing = false ∧ byteAt [0xA5#8] 0 = 0xA5#8 ∧ byteAt [0xA4#8] 0 ≠ 0xA5#8 ∧
      crc16 ((frame [0xA5#8, 0x01#8, 0x17#8] 0x9D#8 0xEB#8).take 30) = wordAt (frame [0xA5#8, 0x01#8, 0x17#8] 0x9D#8 0xEB#8) 30 ∧
      crc16 ((frame [0xA5#8, 0x01#8, 0x17#8] 0x9D#8 0xEA#8).take 30) ≠ wordAt (frame [0xA5#8, 0x01#8, 0x17#8] 0x9D#8 0xEA#8) 30 ∧
      namesRequest 0x17#8 = false ∧
      requestOf (.nop (hd 1)) = some (hd 1, 0x01#8) ∧ (hd 1).len.toNat ∉ allowedLengths 0x01#8 ∧
      requestOf (.raise (hd 2) 40#8 0#16) = some (hd 2, 0x42#8) ∧ (hd 2).len.toNat ∉ allowedLengths 0x42#8 ∧
      Response.reset.payload.length ≤ 25 ∧ (Response.mk 1#8 2#8 .ok (List.replicate 25 0#8)).payload.length ≤ 25 := by
  decide +kernel

theorem witness_DecodeOfEncodeIsTheRequest :
    (Instr.define ⟨7#8, 7#8⟩ 34#8 2#8 5#8 2#8 1000#16 1#8).wellFormed = true ∧
      encodeRequest (.define ⟨7#8, 7#8⟩ 34#8 2#8 5#8 2#8 1000#16 1#8) =
        some (frame [0xA5#8, 0x07#8, 0x40#8, 0x07#8, 0x22#8, 0x02#8, 0x05#8, 0x02#8, 0x03#8, 0xE8#8, 0x01#8] 0x97#8 0xA2#8) ∧
      (Instr.unknownRequest 1#8 0x17#8).wellFormed = true ∧
      encodeRequest (.unknownRequest 1#8 0x17#8) = some (frame [0xA5#8, 0x01#8, 0x17#8] 0x9D#8 0xEB#8) ∧
      (Instr.reset resetWithPorts).wellFormed = true ∧ (encodeRequest (.reset resetWithPorts)).isSome = true := by decide +kernel

/-- R184, R127: a RESET's reset ends at once with RESET_N high, lasts with RESET_N low, and a RESET_END with RESET_N low does
not end it. -/
theorem test_reset_request :
    (after (.reset resetWithPorts) up).resetting = none ∧ (after (.reset resetWithPorts) up).sup.cause = .request ∧
      (after (.reset resetWithPorts) up).ports.drag.state = .attached ∧
      (after (.reset { resetWithPorts with resetN := false }) up).resetting = some .request ∧
      (after (.resetEnd false ⟨0#4, false⟩) inAReset).resetting = some .power ∧
      (after (.resetEnd true ⟨0#4, false⟩) inAReset).resetting = none := by
  decide +kernel

theorem witness_ResetsBeginAndEnd :
    up.inReset = false ∧ up.takesFrame (hd 0) 0 ∧ resetWithPorts.header = hd 0 ∧ resetWithPorts.resetN = true ∧
      up.resetting = none ∧ inAReset.resetting = some .power ∧ 10 ≤ 10 ∧ 9 < 10 ∧
      (after (.resetNLow 10) up).resetting = some .pin ∧ (after (.resetNLow 9) up).resetting = none ∧
      (after .powerOn (after (.selectFall 100) up)).rport.untaken = true ∧
      ({ resetWithPorts with resetN := false } : ResetRequest).header = hd 0 :=
  ⟨by decide +kernel, up_takes 0 (by decide), by decide +kernel⟩

theorem witness_ReadRequestsOnlyRead :
    up.takesFrame (hd 0) 0 ∧ up.takesFrame (hd 1) 1 ∧ up.takesFrame (hd 4) 4 ∧ up.takesFrame (hd 3) 3 ∧
      (∀ c ∈ Code.all, (up.receiveFrame.definition c).pendingMark = false) ∧ (Code.host 0).num = (40#8).toNat ∧
      up.receiveFrame.table.find (.host 0) = some note40 ∧ up.receiveFrame.table.find (.host 1) = none ∧
      (∀ c ∈ Code.all, c.num ≠ (0#8).toNat) ∧ 1 < (2#8).toNat ∧ 4095 < (4096#16).toNat ∧ (7#12).toNat = (7#16).toNat ∧
      (∀ i : Fin 16, (openBank.windows[i].covers 7#12 && openBank.windows[i].nogo) = false) ∧
      bench.nogoWindow 1100#12 = some 0 :=
  ⟨up_takes 0 (by decide), up_takes 1 (by decide), up_takes 4 (by decide), up_takes 3 (by decide), by decide +kernel⟩

/-- 12.7, 12.4 and 12.6: the STATUS payload of the part in READY at generation 1 with HOIST RUNNING, every port ENABLED, RESET_DONE
set and one unacknowledged record. -/
theorem test_status_bytes :
    up.statusPayload =
      [1, 1, 0, 1, 0, 2, 0, 0, 0, 0, 0, 0, 0, 0x33, 0x33, 0x10, 0, 1, 0, 0, 0] := by decide +kernel

/-- 12.8 and 12.4: the record of code 40, SHELVED, DERATE, scope H and W, cap 300, value -2 and just over a minute left. -/
theorem test_alarm_bytes :
    (⟨.host 0, .shelved, .derate, ⟨true, false, false, true⟩, some 300, 0x01020304, 5, some (-2), some ⟨120000, 60001⟩⟩ :
      AlarmRecord).bytes = [40, 3, 1, 9, 7, 0x01, 0x2C, 1, 2, 3, 4, 5, 0xFF, 0xFE, 2] := by decide +kernel

theorem witness_SetWritesThatSettingAlone :
    up.takesFrame (hd 3) 3 ∧ Setting.ofId 0xFF = none ∧ Setting.ofId Setting.swingCpt.id = some .swingCpt ∧
      Setting.ofId Setting.hoistScale.id = some .hoistScale ∧ Setting.ofId Setting.axisPeriod.id = some .axisPeriod ∧
      Setting.ofId 6 = some .camFilter ∧ Setting.ofId 64 = some .walkCreep ∧
      up.receiveFrame.channels.swing.state = .closed ∧ up.receiveFrame.channels.hoist.state ≠ .closed :=
  ⟨up_takes 3 (by decide), by decide +kernel⟩

theorem witness_FlagsAndSnapshot : up.takesFrame (hd 2) 2 ∧ up.takesFrame (hd 0) 0 :=
  ⟨up_takes 2 (by decide), up_takes 0 (by decide)⟩

/-- The walk in MAINT, and in OPENING on the way there. -/
def walkMaint : WalkChannel := { stepping with state := .maint, run := none, demandTimer := running }
def walkOpening (t : WalkTarget) : WalkChannel :=
  { stepping with state := .opening, target := some t, openTimer := running, reference := 0 }

theorem witness_DemandIsStored :
    up.takesFrame (hd 8) 8 ∧ up.receiveFrame.channels.hoist.state = .running ∧ up.receiveFrame.channels.drag.state = .closed ∧
      (upWalk walkMaint).receiveFrame.walk.state = .maint ∧
      (upWalk (walkOpening .maint)).receiveFrame.walk.target = some .maint ∧ up.receiveFrame.walk.state = .idle :=
  ⟨up_takes 8 (by decide), by decide +kernel⟩

theorem witness_OpenByItsChecks :
    up.takesFrame (hd 2) 2 ∧ up.receiveFrame.openChecks .drag .follow = none ∧
      up.receiveFrame.openChecks .hoist .follow = some .state ∧
      ({ up with holdAll := true } : State).receiveFrame.holdAll = true ∧ (4#8).toNat > 3 ∧ (2#8).toNat > 1 :=
  ⟨up_takes 2 (by decide), by decide +kernel⟩

theorem witness_CloseAndHaltByState :
    up.takesFrame (hd 1) 1 ∧ up.takesFrame (hd 0) 0 ∧ up.receiveFrame.channels.hoist.state = .running ∧
      (upHoist { moving with state := .parked }).receiveFrame.channels.hoist.state = .parked ∧
      up.receiveFrame.channels.drag.state = .closed ∧ (upWalk stepping).receiveFrame.walk.state = .stepping ∧
      (upWalk { stepping with state := .stopped }).receiveFrame.walk.state = .stopped ∧
      (upWalk stepping).receiveFrame.asu.camReferenced = true ∧ (upWalk stepping).receiveFrame.asu.teeth = 0#6 ∧
      State.reset.receiveFrame.asu.camReferenced = false ∧ up.receiveFrame.walk.state = .idle :=
  ⟨up_takes 1 (by decide), up_takes 0 (by decide), by decide +kernel⟩

theorem witness_HoldAllSetsAndClears :
    up.takesFrame (hd 0) 0 ∧ up.receiveFrame.holdAll = false ∧
      ({ up with holdAll := true } : State).receiveFrame.holdAll = true ∧ (up.channels.get .hoist).state = .running ∧
      (up.channels.get .hoist).holds = ⟨false, false, false, false⟩ ∧
      ((upHoist { moving with state := .parked }).channels.get .hoist).state = .parked ∧
      ((upHoist { moving with state := .opening, holds := ⟨true, false, false, false⟩ }).channels.get .hoist).holds ≠
        ⟨false, false, false, false⟩ ∧
      ((upHoist { moving with state := .parking }).channels.get .hoist).state = .parking ∧
      (up.channels.get .drag).state = .closed ∧ up.walk.halts = ⟨false, false⟩ ∧
      (upWalk { stepping with halts := ⟨true, false⟩ }).walk.halts ≠ ⟨false, false⟩ ∧
      (⟨true, false⟩ : Halts) ≠ ⟨false, false⟩ ∧ (⟨true, false, false, false⟩ : Holds) ≠ ⟨false, false, false, false⟩ :=
  ⟨up_takes 0 (by decide), by decide +kernel⟩

/-- R92 and R93: parts with HOLD_ALL set at rest, with HOLD_EFFECTIVE standing and not, and with a channel open in MAINT. -/
theorem witness_HoldAllSetsAndClears_effective :
    (∀ a ∈ [Axis.hoist, .drag, .swing], ((upHoist closed).channels.get a).state = .closed) ∧ (upHoist closed).walk.state = .idle ∧
      ({ upHoist closed with holdAll := true, holdEffective := true } : State).holdEffective = true ∧
      ({ upHoist closed with holdAll := true } : State).holdEffective = false ∧ up.holdAll = false ∧
      (up.channels.get .hoist).mode = .follow ∧ ((upHoist { moving with mode := .maint }).channels.get .hoist).mode = .maint ∧
      ((upHoist { moving with mode := .maint }).channels.get .hoist).state = .running ∧ up.walk.state = .idle ∧
      (settle ({ upHoist closed with holdAll := true }, [.holdEffective])).holdEffective = true ∧
      ((settle (upHoist { moving with mode := .maint }, [.channelChanged .hoist])).definition .maintMotion).active = true := by
  decide +kernel

theorem witness_ReferenceSetsThePoint :
    up.takesFrame (hd 3) 3 ∧ (20001#16).toNat > 20000 ∧ (20000#16).toNat ≤ 20000 ∧
      up.receiveFrame.channels.hoist.state ≠ .closed ∧ up.receiveFrame.channels.drag.state = .closed ∧
      (up.receiveFrame.definition (.encoderFault .drag)).active = false ∧ (2#8).toNat > 1 :=
  ⟨up_takes 3 (by decide), by decide +kernel⟩

/-- A part in TRIPPED with or without a trip demand, in a generation. -/
def tripped (demand : Bool) (generation : Nat) : State :=
  { upHoist closed with
    sup := { up.sup with operating := .tripped, tripDemand := demand }, banks := { up.banks with generation := generation } }

/-- The part with a STOP record's consequence set in the table. -/
def tripDue : State := { up with table := { up.table with consequence := { up.table.consequence with trip := true } } }

/-- A walk channel in CLOSING with an origin, its reference still moving and its brake command OPEN. -/
def walkClosing (origin : ClosingOrigin) : WalkChannel :=
  { stepping with state := .closing, run := none, closing := some ⟨origin, .halt⟩ }

theorem witness_TripsLossesAndResume :
    tripDue.table.consequence.trip = true ∧ tripDue.sup.operating ≠ .tripped ∧ up.table.consequence.trip = false ∧
      (tripped true 1).sup.operating = .tripped ∧ (up.ports.get .hoist).state = .enabled ∧
      Axis.motion .hoist = .hoist ∧ (up.channels.get .drag).state = .closed ∧ (up.channels.get .hoist).state ≠ .closed ∧
      (upWalk (walkOpening .maint)).walk.target = some .maint ∧ (upWalk (walkOpening .step)).walk.target ≠ some .maint ∧
      (upWalk (walkClosing .park)).walk.closing = some ⟨.park, .halt⟩ ∧
      (upWalk (walkClosing .other)).walk.closing = some ⟨.other, .halt⟩ ∧
      (upWalk (walkClosing .park)).asu.camReferenced = true ∧ (upWalk (walkClosing .park)).asu.teeth = 0#6 ∧
      State.reset.asu.camReferenced = false ∧ up.walk.state = .idle ∧ (upWalk stepping).walk.state ≠ .idle ∧
      up.takesFrame (hd 0) 0 ∧ (tripped true 1).receiveFrame.sup.tripDemand = true ∧
      (tripped false 1).receiveFrame.sup.operating = .tripped ∧ (tripped false 1).receiveFrame.banks.generation ≠ 0 ∧
      (tripped false 0).receiveFrame.banks.generation = 0 ∧ up.receiveFrame.sup.operating ≠ .tripped := by
  refine ⟨?_, ?_, ?_, ?_, ?_, ?_, ?_, ?_, ?_, ?_, ?_, ?_, ?_, ?_, ?_, ?_, ?_, up_takes 0 (by decide), ?_⟩ <;> decide +kernel

/-- The part with the drag port in another state; the drag channel is CLOSED. -/
def dragPort (p : Port) : State := { up with ports := { up.ports with drag := p } }

/-- A port in RESETTING in a phase, its link timer started at 10 ms. -/
def resetting (phase : ResetPhase) : Port :=
  { Port.blank with state := .resetting, phase := some phase, linkTimer := some ⟨10, 0⟩, sequence := 4#8 }


theorem witness_PortsByState :
    up.takesFrame (hd 1) 1 ∧ (dragPort { Port.blank with state := .attached }).receiveFrame.ports.drag.state = .attached ∧
      up.receiveFrame.ports.drag.state = .enabled ∧ up.receiveFrame.channelClosed .drag = true ∧
      up.receiveFrame.channelClosed .hoist = false ∧
      (dragPort { Port.blank with state := .resetting }).receiveFrame.ports.drag.state = .resetting ∧ (4#8).toNat > 3 ∧
      up.inReset = false ∧ (State.reset.ports.get .drag).state = .detached ∧
      ((dragPort (resetting (.resetFrames 30))).ports.get .drag).linkTimer = some ⟨10, 0⟩ ∧ 30 + 10 < 50 ∧ 50 ≤ 40 + 10 ∧
      ((dragPort (resetting (.enquiry 2))).ports.get .drag).phase = some (.enquiry 2) ∧
      ((dragPort (resetting (.enquiry 3))).ports.get .drag).phase = some (.enquiry 3) :=
  ⟨up_takes 1 (by decide), by decide +kernel⟩

theorem witness_LinkPeriodSendsTheReference :
    up.inReset = false ∧ (up.ports.get .hoist).state = .enabled ∧ (up.ports.get .hoist).linkTimer ≠ none ∧
      (up.ports.get .hoist).outstanding = some ⟨4#8, false⟩ ∧ (up.ports.get .hoist).misses + 1 < 3 ∧
      ((dragPort { enabled with outstanding := none }).ports.get .drag).outstanding = none ∧
      3 ≤ ((dragPort { enabled with misses := 2 }).ports.get .drag).misses + 1 ∧
      (State.reset.ports.get .drag).state ≠ .enabled := by decide +kernel

/-- The hoist at the edge of its envelope: payout 0, where the IN margin is 0. -/
def atEdge (c : Channel) : State :=
  { upHoist c with asu := { up.asu with hoist := { up.asu.hoist with payout := 0 } } }

theorem witness_ReferenceUpdatesByState :
    (up.channels.get .drag).state = .closed ∧
      ((upHoist { moving with state := .opening }).channels.get .hoist).state = .opening ∧
      ((atEdge { moving with reference := -100 }).channels.get .hoist).state = .running ∧
      ((atEdge { moving with reference := -100 }).channels.get .hoist).mode = .follow ∧
      ((atEdge { moving with reference := -100 }).channels.get .hoist).reference < 0 ∧
      ((atEdge { moving with reference := -100 }).limitingTerms .hoist).neg = 0 ∧
      ((upHoist { moving with state := .parking }).channels.get .hoist).state = .parking ∧
      (up.limitingTerms .hoist).pos ≠ 0 ∧ 0 < (up.channels.get .hoist).reference ∧ up.walk.state = .idle ∧
      (upWalk (walkOpening .step)).walk.state = .opening ∧ (upWalk (walkClosing .other)).walk.state = .closing ∧
      (upWalk stepping).walk.run = some ⟨.forward, true, false⟩ ∧
      (upWalk { stepping with run := some ⟨.reverse, false, true⟩ }).walk.run = some ⟨.reverse, false, true⟩ ∧
      (upWalk { stepping with run := some ⟨.forward, true, true⟩ }).walk.run = some ⟨.forward, true, true⟩ ∧
      (upWalk { stepping with state := .halting }).walk.state = .halting ∧ (upWalk walkMaint).walk.state = .maint := by
  decide +kernel

theorem witness_RepliesAndBrakeWatch :
    up.inReset = false ∧ readStatusFrame (statusBytes 4#8 0x15#8) = some ⟨4#8, ⟨true, false, true, false, true⟩⟩ ∧
      readStatusFrame (statusBytes 3#8 0x15#8) = some ⟨3#8, ⟨true, false, true, false, true⟩⟩ ∧
      readStatusFrame (statusBytes 4#8 0x02#8) = some ⟨4#8, ⟨false, true, false, false, false⟩⟩ ∧
      statusBytes 4#8 0x15#8 =
        [0xC3#8, 4#8, 0x15#8, 0#8, 0#8, 0#8, 0#8, crc8 [0xC3#8, 4#8, 0x15#8, 0#8, 0#8, 0#8, 0#8]] ∧
      readStatusFrame [0xC3#8] = none ∧ (up.ports.get .hoist).outstanding = some ⟨4#8, false⟩ ∧
      ((dragPort (resetting (.enquiry 1))).ports.get .drag).sequence = 4#8 ∧
      (up.ports.get .hoist).watch.timer = none ∧
      ((dragPort { enabled with watch := ⟨.apply, false, true, false, running⟩ }).ports.get .drag).watch.timer ≠ none ∧
      ((dragPort { enabled with watch := ⟨.apply, true, false, true, none⟩ }).ports.get .drag).watch.inBreach = true ∧
      ((dragPort { enabled with watch := ⟨.apply, true, false, true, none⟩ }).ports.get .hoist).watch.inBreach = false ∧
      ((dragPort { enabled with watch := ⟨.release, false, false, false, running⟩ }).ports.get .drag).watch.command =
        .release := by
  decide +kernel

/-- The good reply that an opening waits for, and the one that ends a closing. -/
def readyOpen : DriveStatus := ⟨true, false, false, false, true⟩
def restedSet : DriveStatus := ⟨true, false, true, true, false⟩

theorem witness_RepliesActByState :
    readyOpen.ready = true ∧ readyOpen.brakeOpen = true ∧ restedSet.atRest = true ∧ restedSet.brakeSet = true ∧
      ((upHoist { moving with state := .opening }).channels.get .hoist).state = .opening ∧
      ((upHoist { moving with state := .closing, reference := 0 }).channels.get .hoist).reference = 0 ∧
      ((upHoist { moving with state := .closing, reference := 0 }).channels.get .hoist).brake = .release ∧
      ((upHoist { moving with state := .parking, brake := .apply }).channels.get .hoist).brake = .apply ∧
      ((upHoist { moving with state := .parked, holds := ⟨false, false, false, true⟩ }).channels.get .hoist).holds.unreferenced =
        true ∧
      ((upHoist { moving with state := .parked, holds := ⟨true, false, false, false⟩ }).channels.get .hoist).holds.unreferenced =
        false ∧
      ((upHoist { moving with state := .parked }).channels.get .hoist).holds = ⟨false, false, false, false⟩ ∧
      (upWalk (walkOpening .step)).walk.target = some .step ∧ (upWalk (walkOpening .recover)).walk.run = stepping.run ∧
      (upWalk (walkOpening .step)).plan = ⟨1, 0, 2, 0, 600⟩ :: [] ∧
      (upWalk { walkClosing .park with reference := 0 }).walk.reference = 0 ∧
      (upWalk { walkClosing .park with brake := .apply }).walk.brake = .apply ∧
      (upWalk { walkClosing .park with brake := .apply }).asu.teeth = 0#6 := by
  decide +kernel

/-- The walk reaches its entry checks with every channel at rest and its head leg's window open, or with the hoist moving. -/
theorem witness_RepliesActByState_checks :
    (upWalk (walkOpening .step)).channelsRest ∧ ¬({ up with walk := walkOpening .step } : State).channelsRest ∧
      (upWalk (walkOpening .step)).windowAdmits openBank 0 ∧ ¬(upWalk (walkOpening .step)).windowAdmits openBank 1 := by
  refine ⟨fun a => by cases a <;> decide +kernel, fun h => absurd (h .hoist) (by decide +kernel), ?_, ?_⟩ <;>
    (unfold State.windowAdmits; decide +kernel)

/-- The part with a commit pending. -/
def committing : State := { up with banks := { up.banks with staged := openBank, commit := some ⟨⟨30000, 30000⟩, .holding⟩ } }

theorem witness_StagingRequestsWriteStaged :
    up.takesFrame (hd 7) 7 ∧ up.takesFrame (hd 13) 13 ∧ up.takesFrame (hd 2) 2 ∧ up.takesFrame (hd 1) 1 ∧
      up.takesFrame (hd 0) 0 ∧ up.takesFrame (hd 6) (4 * 1 + 2) ∧ up.takesFrame (hd 26) (4 * 6 + 2) ∧
      up.receiveFrame.banks.commit = none ∧ committing.receiveFrame.banks.commit ≠ none ∧
      requestOf (.stageCopy (hd 0)) = some (hd 0, 0x26#8) ∧ (hd 0).len.toNat ∈ allowedLengths 0x26#8 :=
  ⟨up_takes 7 (by decide), up_takes 13 (by decide), up_takes 2 (by decide), up_takes 1 (by decide), up_takes 0 (by decide),
    up_takes 6 (by decide), up_takes 26 (by decide), by decide +kernel⟩

theorem witness_CommitRunsItsCourse :
    up.takesFrame (hd 0) 0 ∧ committing.receiveFrame.banks.commit ≠ none ∧ up.receiveFrame.banks.commit = none ∧
      up.receiveFrame.banks.staged.validate = some (.curveUnset, 0) ∧
      ({ up with banks := { up.banks with staged := openBank } } : State).receiveFrame.banks.staged.validate = none ∧
      committing.safeTest = .holding ∧ committing.sup.operating ≠ .start ∧
      ({ committing with sup := State.reset.sup, banks := { committing.banks with generation := 0 } } : State).sup.operating =
        .start ∧
      ({ committing with banks := { committing.banks with staged := Bank.blank } } : State).safeTest ≠ .holding ∧
      committing.inReset = false :=
  ⟨up_takes 0 (by decide), by decide +kernel⟩

/-- A bank with one flaw at a time, in the order of the five checks. -/
def skewBank : Bank := { openBank with windows := openBank.windows.set 3 ⟨true, 1#12, 0#12, 0, false, false⟩ }
def unsetBank : Bank := { openBank with brake := 7 }
def unorderedBank : Bank := { openBank with curves := openBank.curves.set 1 ⟨2, (flat 0).slots.set 1 ⟨0, 9⟩⟩ }
def narrowBank : Bank := { openBank with sectors := openBank.sectors.set 8 ⟨0, 1, 5, 5, 0, 0, 0⟩ }
def crossedBank : Bank := { openBank with curves := openBank.curves.set 0 (flat 19951) }

theorem witness_SafeConditionAndValidation :
    skewBank.validate = some (.windowAlign, 3) ∧ unsetBank.validate = some (.curveUnset, 7) ∧
      unorderedBank.validate = some (.curveOrder, 1) ∧ narrowBank.validate = some (.sectorRange, 8) ∧
      crossedBank.validate = some (.curvesCross, 0) ∧ openBank.validate = none ∧
      committing.safeTest = .holding ∧
      ({ committing with banks := { committing.banks with staged := Bank.blank } } : State).safeTest = .envelope ∧
      ({ upWalk stepping with banks := { up.banks with staged := Bank.blank } } : State).safeTest = .legWindow ∧
      ({ up with banks := { up.banks with staged :=
        { openBank with windows := openBank.windows.set 5 ⟨true, 0#12, 0#12, 0, true, false⟩ } } } : State).safeTest =
        .nogo := by
  decide +kernel

theorem witness_CommitCancelEndsIt :
    committing.takesFrame (hd 0) 0 ∧ committing.receiveFrame.banks.commit ≠ none ∧ up.receiveFrame.banks.commit = none :=
  ⟨⟨by decide +kernel, by decide⟩, by decide +kernel⟩

/-- A plan of eight legs. -/
def eightLegs : List Leg := [1, 2, 3, 4, 5, 6, 7, 8].map fun n => ⟨n, 0, 2, 0, 600⟩

theorem witness_PlanRequestsChangeThePlan :
    up.takesFrame (hd 4) 4 ∧ up.planSound ∧ up.receiveFrame.plan.length < 8 ∧
      ({ up with plan := eightLegs, nextLegId := 9 } : State).planSound ∧
      ({ up with plan := eightLegs } : State).receiveFrame.plan.length = 8 ∧ (63#8).toNat ≤ 63 ∧ 63 < (64#8).toNat ∧
      up.takesFrame (hd 1) 1 ∧ up.takesFrame (hd 0) 0 ∧ up.receiveFrame.plan = ⟨1, 0, 2, 0, 600⟩ :: [] ∧
      ({ up with plan := eightLegs.tail, nextLegId := 2 } : State).planSound ∧
      (∃ l ∈ eightLegs.tail, l.id = 2) ∧ (∀ l ∈ eightLegs.tail, l.id ≠ 9) ∧
      (∃ x ∈ eightLegs.tail, x.id = (8#8).toNat) ∧ up.receiveFrame.walk.state = .idle ∧
      (upWalk stepping).receiveFrame.walk.state ≠ .idle :=
  ⟨up_takes 4 (by decide), by unfold State.planSound Leg.inRange; decide +kernel, by decide +kernel,
    by unfold State.planSound Leg.inRange; decide +kernel, by decide +kernel, by decide, by decide, up_takes 1 (by decide),
    up_takes 0 (by decide), by decide +kernel, by unfold State.planSound Leg.inRange; decide +kernel, by decide +kernel⟩

/-- R99: with ids 2 to 8 in use, an id from the counter at 2 on is 9, and with 255 and 1 in use from 255 on it is 2. -/
theorem test_next_leg_id :
    freshLeg eightLegs.tail 9 2 = 9 ∧ freshLeg [⟨255, 0, 2, 0, 600⟩, ⟨1, 0, 2, 0, 600⟩] 9 255 = 2 := by decide

/-- The part with every channel at rest, in the carry box, and ready to walk. -/
def readyToWalk : State := upWalk WalkChannel.blank

/-- A walk STOPPED under an acknowledged HOLD record of WALK_PRECONDITION. -/
def heldByPrecondition : State :=
  let r : AlarmRecord := { note40 with
    code := .walkPrecondition, cls := .hold, state := .activeAck, scope := ⟨false, false, false, true⟩ }
  { upWalk { stepping with state := .stopped, halts := ⟨false, true⟩, alarmHold := true } with
    defs := State.reset.defs.set (Code.idx .walkPrecondition)
      { Code.defaultDefinition .walkPrecondition with cls := .hold, active := true, scope := ⟨false, false, false, true⟩ }
    table := { AlarmTable.blank with
      records := [r], sequence := 9
      consequence := ⟨⟨1000, 1000, 1000, 1000⟩, ⟨false, false, false, true⟩, false⟩ } }

/-- R118: the sample false of a recovery retires that record, and the walk then finds no halt source and recovers. -/
theorem test_recovery_target :
    (after (.walkStart (hd 0)) heldByPrecondition).walk.state = .opening ∧
      (after (.walkStart (hd 0)) heldByPrecondition).walk.target = some .recover ∧
      (after (.walkStart (hd 0)) heldByPrecondition).walk.halts = ⟨false, false⟩ := by
  decide +kernel

theorem witness_WalkStartByState :
    readyToWalk.takesFrame (hd 0) 0 ∧ readyToWalk.receiveFrame.startFailure = none ∧
      readyToWalk.receiveFrame.walk.halts = ⟨false, false⟩ ∧ readyToWalk.receiveFrame.plan ≠ [] ∧
      up.receiveFrame.startFailure = some (4, .state) ∧ State.reset.receiveFrame.plan = [] ∧
      (upWalk { WalkChannel.blank with halts := ⟨true, false⟩ }).receiveFrame.walk.halts ≠ ⟨false, false⟩ ∧
      (upWalk stepping).receiveFrame.walk.state = .stepping ∧
      (upWalk { stepping with state := .stopped }).receiveFrame.walk.state = .stopped ∧
      (upWalk { stepping with state := .stopped }).receiveFrame.sup.operating = .ready ∧
      (upWalk { stepping with state := .stopped }).receiveFrame.asu.stale = false :=
  ⟨⟨by decide +kernel, by decide⟩, by decide +kernel⟩

theorem witness_ParkArrivals :
    (upWalk stepping).walk.state = .stepping ∧ (upWalk stepping).plan = ⟨1, 0, 2, 0, 600⟩ :: [] ∧
      (upWalk stepping).walk.run = some ⟨.forward, true, false⟩ ∧
      ({ upWalk stepping with plan := [⟨1, 0, 2, 1, 600⟩] } : State).plan = ⟨1, 0, 2, 1, 600⟩ :: [] ∧
      (upWalk { stepping with state := .halting, run := some ⟨.reverse, false, false⟩ }).walk.run =
        some ⟨.reverse, false, false⟩ ∧
      (upWalk stepping).asu.stale = false ∧ (upWalk stepping).asu.roll.natAbs ≤ (upWalk stepping).cfg .rollLimit ∧
      (upWalk stepping).asu.pitch.natAbs ≤ (upWalk stepping).cfg .pitchLimit ∧ (upWalk stepping).inCarryBox = true ∧
      (upWalk stepping).headFits = true ∧ State.reset.asu.stale = true ∧ State.reset.plan = [] ∧
      (upWalk (walkClosing .park)).walk.state ≠ .stepping := by
  decide +kernel

theorem witness_DefineAndHostCodes :
    up.takesFrame (hd 7) 7 ∧ up.takesFrame (hd 1) 1 ∧ up.takesFrame (hd 3) 3 ∧ Code.ofNum 28 = none ∧
      Code.ofNum (34#8).toNat = some (.input 2) ∧ (3#8).toNat = 3 ∧ (1#8).toNat = 1 ∧ classOf 3#8 = some .stop ∧
      polarityOf 1#8 = some .activeLow ∧ Code.ofNum (27#8).toNat = some .tableOverflow ∧
      up.receiveFrame.table.find (.host 0) ≠ none ∧ up.receiveFrame.table.find (.input 2) = none ∧
      (up.receiveFrame.definition (.input 2)).pendingMark = false ∧
      (up.receiveFrame.definition (.input 2)).floor = Code.floor (.input 2) ∧ 3 < (4#8).toNat ∧ (39#8).toNat < 40 ∧
      (40#8).toNat = 40 + (0 : Fin 24).val ∧ (63#8).toNat = 40 + (23 : Fin 24).val ∧ 63 < (64#8).toNat :=
  ⟨up_takes 7 (by decide), up_takes 1 (by decide), up_takes 3 (by decide), by decide +kernel⟩

theorem witness_SamplesPassThePersistenceFilter :
    (up.definition .tubRoll).active = false ∧ 2 ≤ (up.definition .tubRoll).persistence ∧
      (up.definition .tubRoll).run + 1 ≠ (up.definition .tubRoll).persistence ∧
      (up.definition (.host 0)).active = true ∧ (up.definition (.host 0)).persistence ≤ 1 := by decide +kernel

/-- That part with ENCODER_FAULT_H ACTIVE, the hoist still referenced. -/
def faulted : State :=
  up.setDef (.encoderFault .hoist) { up.definition (.encoderFault .hoist) with active := true }

theorem witness_SamplesPassThePersistenceFilter_fault :
    (faulted.definition (.encoderFault .hoist)).active = true ∧ faulted.asu.hoist.referenced = true ∧
      (faulted.definition (.encoderFault .drag)).active = false ∧ State.reset.asu.drag.referenced = false := by decide +kernel

/-- R6, R80, R81: the hoist loses its reference, its payout holds, and the RUNNING channel parks. -/
theorem test_encoder_fault :
    let t := settle (faulted, [.faultState .hoist])
    t.asu.hoist = ⟨0#32, 0#32, 3000, 3000, false⟩ ∧ t.channels.hoist.state = .parking := by decide +kernel

/-- A table of 32 HOLD records. -/
def fullTable : State :=
  { State.reset with
    table := { AlarmTable.blank with
      records := (Code.all.take 32).filterMap fun c =>
        if c = .tableOverflow then some { note40 with code := .host 5, cls := .hold } else some { note40 with code := c, cls := .hold } } }

/-- Six records of HOLD, a NOTE record of host code 8, ACTIVE or not, then 25 more records of HOLD. -/
def noteInFull (active : Bool) : State :=
  let held (c : Code) : AlarmRecord := { note40 with code := c, cls := .hold, scope := ⟨false, false, false, false⟩ }
  let codes := Code.all.filter fun c => decide (c ≠ .tableOverflow ∧ c ≠ .host 8 ∧ c ≠ .host 1)
  { State.reset with
    defs := State.reset.defs.set (Code.idx (.host 8)) { Code.defaultDefinition (.host 8) with active := active }
    table := { AlarmTable.blank with
      records := (codes.take 6).map held ++ { note40 with code := .host 8 } :: ((codes.drop 6).take 25).map held
      sequence := 9 } }

theorem witness_ARaiseMakesARecord :
    up.table.find (.host 1) = none ∧ up.table.records.length < 32 ∧ up.table.find .tableOverflow = none ∧
      up.table.find (.host 0) = some note40 ∧ note40.state ≠ .clearedUnack ∧
      (upRecord { note40 with state := .clearedUnack }).table.find (.host 0) = some { note40 with state := .clearedUnack } ∧
      fullTable.table.find (.host 1) = none ∧ fullTable.table.records.length = 32 ∧
      (∀ x ∈ fullTable.table.records, x.cls ≠ .note) ∧ (noteInFull true).table.find (.host 1) = none ∧
      (noteInFull true).table.records.length = 32 ∧
      (noteInFull true).table.records =
        (noteInFull true).table.records.take 6 ++ { note40 with code := .host 8 } :: (noteInFull true).table.records.drop 7 ∧
      note40.cls = .note ∧ (∀ x ∈ (noteInFull true).table.records.take 6, x.cls ≠ .note) ∧
      (∀ x ∈ (noteInFull true).table.records.take 6 ++ (noteInFull true).table.records.drop 7, x.code ≠ .host 8) ∧
      ((noteInFull true).definition (.host 8)).active = true ∧ ((noteInFull false).definition (.host 8)).active = false := by
  decide +kernel

/-- R162 step 1: the displaced NOTE code is marked exactly if it is ACTIVE, and the raised code is the newest. -/
theorem test_displacement :
    ((noteInFull true).raiseRecord (.host 1)).table.records.getLast?.map AlarmRecord.code = some (.host 1) ∧
      (((noteInFull true).raiseRecord (.host 1)).definition (.host 8)).pendingMark = true ∧
      ((noteInFull false).raiseRecord (.host 1)).anyMark = false ∧
      ((noteInFull true).raiseRecord (.host 1)).table.find (.host 8) = none := by
  decide +kernel

/-- A table whose one record is of code 40 in a state, with host code 2 marked and of class HOLD, the cursor on the record, and
an overflow record in a state. -/
def markedTable (x : RecordState) (overflow : Option RecordState) : State :=
  { State.reset with
    defs := State.reset.defs.set (Code.idx (.host 2))
      { Code.defaultDefinition (.host 2) with active := true, pendingMark := true, cls := .hold }
    table := { AlarmTable.blank with
      overflow := overflow.map fun y => { note40 with code := .tableOverflow, state := y }
      records := [{ note40 with state := x }], cursor := some (.host 0) } }

theorem witness_ClearsAndRetirements :
    ((markedTable .activeAck none).definition (.host 2)).pendingMark = true ∧
      ((markedTable .activeAck none).definition (.host 0)).pendingMark = false ∧
      (markedTable .activeAck none).table.find (.host 3) = none ∧
      (markedTable .activeUnack none).table.find (.host 0) = some { note40 with state := .activeUnack } ∧
      (markedTable .activeAck none).table.find (.host 0) = some { note40 with state := .activeAck } ∧
      (markedTable .clearedUnack none).table.find (.host 0) = some { note40 with state := .clearedUnack } ∧
      (∀ e ∈ Code.all, e.num < (Code.host 2).num → ((markedTable .activeAck none).definition e).pendingMark = false) ∧
      (∀ e ∈ Code.all, (State.reset.definition e).pendingMark = false) ∧ (Code.host 0) ≠ .tableOverflow ∧
      (markedTable .activeAck none).table.cursor = some (.host 0) ∧
      (markedTable .activeAck none).table.listing.map AlarmRecord.code = .host 0 :: [] ∧
      (markedTable .activeAck (some .activeAck)).table.listing.map AlarmRecord.code =
        [] ++ .tableOverflow :: .host 0 :: [] ∧
      ((markedTable .activeAck none).definition .tableOverflow).active = false ∧
      (markedTable .activeAck none).limitingMark = true ∧ State.reset.limitingMark = false ∧
      (markedTable .activeAck (some .clearedUnack)).table.overflow.isSome = true ∧
      note40.cls = .note ∧ ({ note40 with cls := .derate } : AlarmRecord).cls = .derate ∧
      ({ note40 with cls := .stop, state := .clearedUnack } : AlarmRecord).state = .clearedUnack := by
  decide +kernel

/-- R168, R169, R174 and R175: a table with an overflow record in effect as a HOLD on HOIST and, behind it, two DERATE records on
HOIST, caps 700 and 400, a third on HOIST that is CLEARED_UNACK, cap 100, and an acknowledged STOP record. -/
def limitingTable : AlarmTable :=
  let h : PerMotion Bool := ⟨true, false, false, false⟩
  let derate (i : Fin 24) (x : RecordState) (cap : Nat) : AlarmRecord := ⟨.host i, x, .derate, h, some cap, 1, 0, none, none⟩
  { AlarmTable.blank with
    overflow := some ⟨.tableOverflow, .activeAck, .hold, h, none, 1, 0, none, none⟩
    records := [derate 0 .activeAck 700, derate 1 .activeUnack 400, derate 2 .clearedUnack 100,
      ⟨.host 3, .activeAck, .stop, h, none, 2, 0, none, none⟩] }

theorem test_consequences :
    limitingTable.formConsequence = ⟨⟨400, 1000, 1000, 1000⟩, ⟨true, false, false, false⟩, true⟩ ∧
      limitingTable.hornLevel = true ∧ limitingTable.beaconLevel = true ∧
      ({ limitingTable with records := [] } : AlarmTable).hornLevel = false := by decide +kernel

theorem witness_ClearsAndRetirements_consequences :
    ∃ x ∈ limitingTable.listing, (x.cls = .derate ∧ x.inEffect = true ∧ x.scope.get .hoist = true ∧ x.cap = some 400) ∧
      ∀ y ∈ limitingTable.listing, y.cls = .derate → y.inEffect = true → ∀ j ∈ y.cap, 400 ≤ j := by decide +kernel

/-- R163, R154 and R172: the room of a retired record goes to the marked code, and the cursor on it to start. -/
theorem test_retirement :
    ((markedTable .activeAck none).retireRecord (.host 0)).table.records.map AlarmRecord.code = [.host 2] ∧
      ((markedTable .activeAck none).retireRecord (.host 0)).anyMark = false ∧
      ((markedTable .activeAck none).retireRecord (.host 0)).table.cursor = none := by
  decide +kernel

theorem witness_AcknowledgingAndShelving :
    up.takesFrame (hd 1) 1 ∧ up.takesFrame (hd 0) 0 ∧ up.takesFrame (hd 2) 2 ∧ up.inReset = false ∧
      Code.ofNum (40#8).toNat = some (.host 0) ∧ up.receiveFrame.table.find (.host 0) = some note40 ∧
      note40.code = .host 0 ∧ note40.state = .activeUnack ∧ Code.ofNum (41#8).toNat = some (.host 1) ∧
      up.receiveFrame.table.find (.host 1) = none ∧
      (upRecord { note40 with state := .shelved, shelve := running }).receiveFrame.table.find (.host 0) =
        some { note40 with state := .shelved, shelve := running } ∧
      (upRecord { note40 with cls := .hold, state := .clearedUnack }).receiveFrame.table.find (.host 0) =
        some { note40 with cls := .hold, state := .clearedUnack } :=
  ⟨up_takes 1 (by decide), up_takes 0 (by decide), up_takes 2 (by decide), by decide +kernel⟩

theorem witness_SilenceAndListing :
    up.takesFrame (hd 0) 0 ∧ up.receiveFrame.table.listing.map AlarmRecord.code = [.host 0] ∧
      up.receiveFrame.table.cursor = none ∧ State.reset.receiveFrame.table.listing = [] ∧
      ({ up with table := { up.table with cursor := some (.host 0) } } : State).receiveFrame.table.cursor = some (.host 0) ∧
      ({ fullTable with table := { fullTable.table with cursor := some .linkLost } } : State).receiveFrame.table.cursor =
        some .linkLost :=
  ⟨up_takes 0 (by decide), by decide +kernel⟩

theorem witness_EncodersAndInclinometer :
    up.inReset = false ∧ up.asu.swing.count < up.cfg .swingCpt ∧ up.asu.swing.referenced = true ∧
      State.reset.asu.swing.referenced = false ∧ (State.reset.definition (.encoderFault .swing)).active = false ∧
      up.asu.tiltFrame = [] ∧ crc8 [0x96#8, 0x00#8, 0x00#8, 0x01#8, 0x68#8] = 0xE4#8 ∧
      (after (.inclinometerFrame [0x96#8, 0x00#8]) up).asu.tiltFrame = [0x96#8, 0x00#8] ∧
      (after (.inclinometerFrame [0x96#8, 0x00#8, 0x00#8, 0x01#8, 0x68#8]) up).asu.tiltFrame =
        [0x96#8, 0x00#8, 0x00#8, 0x01#8, 0x68#8] ∧
      up.asu.staleTimer ≠ none ∧ inAReset.asu.staleTimer = none := by
  decide +kernel

/-- R199: a frame split over two receptions is accepted, a roll of 360. -/
theorem test_split_frame :
    (after (.inclinometerFrame [0x01#8, 0x68#8, 0xE4#8]) (after (.inclinometerFrame [0x96#8, 0x00#8, 0x00#8]) up)).asu.roll =
      360 := by
  decide +kernel

/-- R11, R17: a pulse that began before two CAM_FILTER writes is judged by the value in force at its beginning. -/
theorem test_cam_filter_writes :
    let s := after (.set (hd 3) (BitVec.ofNat 8 Setting.camFilter.id) 0#16)
      (after (.set (hd 3) (BitVec.ofNat 8 Setting.camFilter.id) 3#16) up)
    (after (.camToothEdge .forward ⟨1999, 2⟩) s).asu.teeth = 0#6 ∧ (after (.camToothEdge .forward ⟨2000, 2⟩) s).asu.teeth = 1#6 ∧
      (after (.camToothEdge .forward ⟨2000, 1⟩) s).asu.teeth = 0#6 ∧ (after (.camToothEdge .forward ⟨0, 0⟩) s).asu.teeth = 1#6 := by
  decide +kernel

theorem witness_CamIsCounted :
    up.inReset = false ∧ up.cfg .camFilter = 2 ∧ up.asu.camReferenced = true ∧ (camAt 1#6).asu.teeth = 1#6 ∧
      State.reset.asu.camReferenced = false := by decide +kernel

theorem witness_SamplesArrive :
    up.inReset = false ∧ State.reset.asu.hoist.referenced = false ∧ (hoistAt 95000).asu.hoist.referenced = true ∧
      unsaturated (hoistAt 95000).asu.hoist 1000 = 0 ∧ unsaturated (hoistAt 94990).asu.hoist 1000 = -1 ∧
      unsaturated (hoistAt 295000).asu.hoist 1000 = 20000 ∧ unsaturated (hoistAt 295010).asu.hoist 1000 = 20001 ∧
      up.asu.swing.referenced = true ∧ up.allReferenced = true ∧ State.reset.asu.swing.referenced = false ∧
      State.reset.allReferenced = false := by
  decide +kernel

theorem witness_TimersRunOut :
    up.inReset = false ∧ (upHoist { moving with state := .opening, openTimer := running }).channels.hoist.openTimer ≠ none ∧
      up.channels.hoist.demandTimer ≠ none ∧ up.channels.drag.demandTimer = none ∧
      (upHoist { moving with state := .closing, restTimer := running }).channels.hoist.restTimer ≠ none ∧
      (upWalk (walkOpening .step)).walk.target = some .step ∧ (upWalk (walkOpening .halt)).walk.openTimer ≠ none ∧
      (upWalk { stepping with restTimer := running }).walk.restTimer ≠ none ∧
      (upWalk walkMaint).walk.demandTimer ≠ none ∧ up.sup.watchdog ≠ none ∧ inAReset.sup.watchdog = none := by decide +kernel

theorem witness_DeliveriesComeToAnEnd : (List.replicate 12 Act.walkChanged).length ≤ 12 := by decide

theorem witness_MarginsTaperAndRamp :
    (0 : Int) ≤ 20 ∧ (0 : Int) ≤ 50 ∧ (1 : Nat) ≤ 300 ∧ (50 : Nat) < 1000 ∧ (0 : Int) < 12 ∧ (12 : Int) < 300 := by decide

/-- R34: before, between and after the points of a curve, with a falling segment cut toward zero, and an unset curve. -/
theorem witness_MarginsTaperAndRamp_curve :
    let c := curveOf [⟨10, 100⟩, ⟨17, 98⟩, ⟨20, 200⟩]
    let points := c.slots.toList.take c.count
    2 ≤ c.count ∧ points.head? = some ⟨10, 100⟩ ∧ points.getLast? = some ⟨20, 200⟩ ∧ c.value 10 = some 100 ∧
      c.value 13 = some 100 ∧ c.value 14 = some 99 ∧ c.value 17 = some 98 ∧ c.value 18 = some 132 ∧ c.value 20 = some 200 ∧
      (curveOf [⟨10, 100⟩]).count < 2 ∧ (curveOf [⟨10, 100⟩]).value 10 = none := by decide +kernel

theorem witness_WindowsCoverTheirAngles :
    (⟨true, 0#12, 0#12, 0, false, false⟩ : Window).enable = true ∧
      (⟨true, 1#12, 2048#12, 0, false, false⟩ : Window).base &&& ~~~(2048#12) ≠ 0#12 ∧
      (⟨true, 5#12, 4095#12, 0, false, false⟩ : Window).mask = 4095#12 := by decide

theorem witness_TheSectorMapAnswers :
    bench.governing 1100#12 = some 0 ∧ openBank.governing 7#12 = some 0 ∧ Bank.blank.governing 0#12 = none ∧
      Bank.blank.curves[(0 : Fin 16)].count < 2 ∧ openBank.containsAt 7#12 0 20000 = true ∧
      openBank.containsAt 7#12 20000 0 = true := by
  decide +kernel

theorem witness_PermittedValuesKeepTheirTerms :
    (up.channels.get .hoist).state = .running ∧ 0 < (up.channels.get .hoist).demand ∧
      ((atBench (-800) (-600)).channels.get .hoist).demand < 0 ∧
      (upHoist { moving with mode := .maint }).channels.hoist.mode = .maint := by decide +kernel

theorem witness_TheEnvelopeNeverCrosses :
    openBank.validate = none ∧ (8 : Fin 9) ∈ openBank.reachable ∧ up.banksValidated ∧ up.banks.generation ≠ 0 :=
  ⟨by decide +kernel, by decide +kernel, ⟨fun _ => by decide +kernel, fun h => absurd h (by decide)⟩, by decide⟩

theorem witness_NoReferenceIntoALimit :
    ((atBench (-800) (-600)).channels.get .hoist).mode = .follow ∧
      ((atBench (-800) (-600)).channels.get .hoist).state = .running ∧
      ((atBench (-800) (-600)).channelUpdate .hoist).2.reference < 0 ∧ (up.channelUpdate .hoist).2.reference > 0 := by
  decide +kernel

/-- A STEPPING walk that loses its port ends in IDLE, and one halted at park in CLOSING. -/
theorem witness_TheWalkEndsAtPark :
    exec (.presenceChange .walk false 20) (upWalk stepping) = .next (after (.presenceChange .walk false 20) (upWalk stepping)) ∧
      (upWalk stepping).walk.state = .stepping ∧
      (after (.presenceChange .walk false 20) (upWalk stepping)).walk.state = .idle ∧
      exec (.walkHalt (hd 0)) (upWalk stepping) = .next (after (.walkHalt (hd 0)) (upWalk stepping)) ∧
      (after (.walkHalt (hd 0)) (upWalk stepping)).walk.state = .closing :=
  ⟨rfl, by decide +kernel, by decide +kernel, rfl, by decide +kernel⟩

/-! ### A sound state, for the statements about every step -/

/-- The part with its waiting command: the hoist's link period. -/
def busy : State := { up with pending := [.linkPeriodEvent .hoist] }

theorem busy_steps : step busy = .next (after (.linkPeriodEvent .hoist) up) := rfl

theorem busy_follows (a : Axis) : busy.demandLostFollows a := by
  unfold State.demandLostFollows; cases a <;> decide +kernel

theorem busy_records : busy.recordsAgree := by
  unfold State.recordsAgree Channel.recordAgrees WalkChannel.recordAgrees
  refine ⟨by decide +kernel, by decide +kernel, by decide +kernel, by decide +kernel, by decide +kernel, by decide +kernel,
    fun r h => (nomatch (show none = some r from h)), by decide +kernel⟩

theorem busy_validated : busy.banksValidated :=
  ⟨fun _ => by decide +kernel, fun h => absurd h (by decide +kernel)⟩

/-- The state of every EveryStep statement's witness: it is sound, and the hoist's link period leads to a next state. -/
theorem busy_sound : busy.sound :=
  ⟨by unfold State.outputsAgree; decide +kernel,
    by unfold State.alarmsDelivered State.channelHasSet; decide +kernel,
    by unfold State.interlocked State.channelInterlocked State.walkInterlocked; decide +kernel,
    busy_records,
    by unfold State.portsSound Port.isSound; decide +kernel,
    by unfold State.sensingInRange RopeAxis.inRange; decide +kernel,
    by unfold State.speedsInRange Channel.speedsInRange; decide +kernel,
    by unfold State.planSound Leg.inRange; decide +kernel,
    by unfold State.tableSound; decide +kernel,
    by unfold State.codesAgree; decide +kernel,
    ⟨by decide +kernel, busy_follows, by decide +kernel, by decide +kernel, by decide +kernel⟩,
    busy_validated⟩

/-- HORN high with BEACON low in the part with its one NOTE record unacknowledged. -/
theorem test_outputs : busy.table.hornLevel = true ∧ busy.table.beaconLevel = false := by decide +kernel

theorem witness_EveryStepKeepsTheOutputs : busy.sound ∧ step busy = .next (after (.linkPeriodEvent .hoist) up) :=
  ⟨busy_sound, busy_steps⟩

theorem witness_EveryStepDeliversTheAlarms : busy.sound ∧ step busy = .next (after (.linkPeriodEvent .hoist) up) :=
  ⟨busy_sound, busy_steps⟩

theorem witness_EveryStepKeepsTheInterlocks : busy.sound ∧ step busy = .next (after (.linkPeriodEvent .hoist) up) :=
  ⟨busy_sound, busy_steps⟩

theorem witness_EveryStepKeepsTheChannelRecords : busy.sound ∧ step busy = .next (after (.linkPeriodEvent .hoist) up) :=
  ⟨busy_sound, busy_steps⟩

theorem witness_EveryStepKeepsThePorts : busy.sound ∧ step busy = .next (after (.linkPeriodEvent .hoist) up) :=
  ⟨busy_sound, busy_steps⟩

theorem witness_EveryStepKeepsTheRanges : busy.sound ∧ step busy = .next (after (.linkPeriodEvent .hoist) up) :=
  ⟨busy_sound, busy_steps⟩

theorem witness_EveryStepKeepsTheTable : busy.sound ∧ step busy = .next (after (.linkPeriodEvent .hoist) up) :=
  ⟨busy_sound, busy_steps⟩

theorem witness_EveryStepKeepsTheConditions : busy.sound ∧ step busy = .next (after (.linkPeriodEvent .hoist) up) :=
  ⟨busy_sound, busy_steps⟩

theorem witness_EveryStepKeepsTheBanksValidated : busy.sound ∧ step busy = .next (after (.linkPeriodEvent .hoist) up) :=
  ⟨busy_sound, busy_steps⟩

end Sys2Proof.Tests
end

namespace Sys2Proof.Machine

/-! ## What a delivery leaves alone

One relation says for every delivery which parts of the state it cannot touch, and how far it can move the positions,
the speeds and the plan. -/

/-- The two deliveries that move something of the ASU: a position formed, an encoder fault's state (R1, R6, R10). -/
def Act.movesAsu : Act → Bool
  | .faultState _ => true
  | .formPosition _ => true
  | _ => false

/-- A speed that stays as it was or becomes 0. -/
def Calmer (x y : Int) : Prop := y = x ∨ y = 0

theorem Calmer.refl (x : Int) : Calmer x x := .inl rfl

theorem Calmer.zero (x : Int) : Calmer x 0 := .inr rfl

theorem Calmer.trans {x y z : Int} (h : Calmer x y) (k : Calmer y z) : Calmer x z := by
  rcases k with rfl | rfl
  · exact h
  · exact .zero x

theorem Calmer.natAbs_le {x y : Int} (h : Calmer x y) : y.natAbs ≤ x.natAbs := by
  rcases h with rfl | rfl <;> simp

/-- The demand, permitted value and reference of a channel each stay or become 0. -/
structure Channel.Calms (c d : Channel) : Prop where
  demand : Calmer c.demand d.demand
  permitted : Calmer c.permitted d.permitted
  reference : Calmer c.reference d.reference

theorem Channel.Calms.refl (c : Channel) : c.Calms c := ⟨.refl _, .refl _, .refl _⟩

theorem Channel.Calms.trans {c d e : Channel} (h : c.Calms d) (k : d.Calms e) : c.Calms e :=
  ⟨h.demand.trans k.demand, h.permitted.trans k.permitted, h.reference.trans k.reference⟩

/-- The demand, permitted value and reference of the walk channel each stay or become 0. -/
structure WalkChannel.Calms (w x : WalkChannel) : Prop where
  demand : Calmer w.demand x.demand
  permitted : Calmer w.permitted x.permitted
  reference : Calmer w.reference x.reference

theorem WalkChannel.Calms.refl (w : WalkChannel) : w.Calms w := ⟨.refl _, .refl _, .refl _⟩

theorem WalkChannel.Calms.trans {w x y : WalkChannel} (h : w.Calms x) (k : x.Calms y) : w.Calms y :=
  ⟨h.demand.trans k.demand, h.permitted.trans k.permitted, h.reference.trans k.reference⟩

/-- Two definitions of one code that differ in what a sample, a mark or the raised value leaves, and in nothing that
DEFINE or a host request writes. -/
structure Definition.SameTerms (d e : Definition) : Prop where
  cls : e.cls = d.cls
  floor : e.floor = d.floor
  scope : e.scope = d.scope
  persistence : e.persistence = d.persistence
  cap : e.cap = d.cap
  polarity : e.polarity = d.polarity
  hostRaw : e.hostRaw = d.hostRaw

theorem Definition.SameTerms.refl (d : Definition) : d.SameTerms d := ⟨rfl, rfl, rfl, rfl, rfl, rfl, rfl⟩

theorem Definition.SameTerms.trans {d e f : Definition} (h : d.SameTerms e) (k : e.SameTerms f) : d.SameTerms f :=
  ⟨k.cls.trans h.cls, k.floor.trans h.floor, k.scope.trans h.scope, k.persistence.trans h.persistence, k.cap.trans h.cap,
    k.polarity.trans h.polarity, k.hostRaw.trans h.hostRaw⟩

/-- What the second state may differ from the first in when deliveries led from the one to the other. -/
structure Undisturbed (s t : State) : Prop where
  settings : t.settings = s.settings
  staged : t.banks.staged = s.banks.staged
  holdAll : t.holdAll = s.holdAll
  nextLegId : t.nextLegId = s.nextLegId
  lines : t.lines = s.lines
  inputTimer : t.inputTimer = s.inputTimer
  resetting : t.resetting = s.resetting
  pending : t.pending = s.pending
  sup : t.sup = { s.sup with operating := t.sup.operating, tripDemand := t.sup.tripDemand }
  rport : t.rport = { s.rport with flags := t.rport.flags }
  flags : s.rport.flags &&& t.rport.flags = s.rport.flags
  asu : t.asu = { s.asu with
    hoist := { s.asu.hoist with payout := t.asu.hoist.payout, referenced := t.asu.hoist.referenced }
    drag := { s.asu.drag with payout := t.asu.drag.payout, referenced := t.asu.drag.referenced }
    swing := { s.asu.swing with angle := t.asu.swing.angle, referenced := t.asu.swing.referenced } }
  payouts : ∀ q, (t.rope q).payout = (s.rope q).payout ∨ (t.rope q).payout ≤ Config.maxPayout
  definitions : ∀ c, (s.definition c).SameTerms (t.definition c)
  channels : ∀ a, (s.channels.get a).Calms (t.channels.get a)
  walk : s.walk.Calms t.walk
  legIds : t.plan.map Leg.id <:+ s.plan.map Leg.id
  legs : (∀ l ∈ s.plan, l.inRange) → ∀ l ∈ t.plan, l.inRange

namespace Undisturbed

theorem refl (s : State) : Undisturbed s s where
  settings := rfl
  staged := rfl
  holdAll := rfl
  nextLegId := rfl
  lines := rfl
  inputTimer := rfl
  resetting := rfl
  pending := rfl
  sup := rfl
  rport := rfl
  flags := BitVec.and_self
  asu := rfl
  payouts _ := .inl rfl
  definitions _ := .refl _
  channels _ := .refl _
  walk := .refl _
  legIds := List.suffix_refl _
  legs := id

theorem trans {s t u : State} (h : Undisturbed s t) (k : Undisturbed t u) : Undisturbed s u where
  settings := k.settings.trans h.settings
  staged := k.staged.trans h.staged
  holdAll := k.holdAll.trans h.holdAll
  nextLegId := k.nextLegId.trans h.nextLegId
  lines := k.lines.trans h.lines
  inputTimer := k.inputTimer.trans h.inputTimer
  resetting := k.resetting.trans h.resetting
  pending := k.pending.trans h.pending
  sup := by rw [k.sup, h.sup]
  rport := by rw [k.rport, h.rport]
  flags := by rw [← h.flags, BitVec.and_assoc, k.flags]
  asu := by rw [k.asu, h.asu]
  payouts q := by
    rcases k.payouts q with e | e
    · exact e ▸ h.payouts q
    · exact .inr e
  definitions c := (h.definitions c).trans (k.definitions c)
  channels a := (h.channels a).trans (k.channels a)
  walk := h.walk.trans k.walk
  legIds := k.legIds.trans h.legIds
  legs := k.legs ∘ h.legs

end Undisturbed

/-- Undisturbed, and nothing of the ASU moves either: what all deliveries leave but those that reach the ASU. -/
structure Steady (s t : State) : Prop extends Undisturbed s t where
  steadyAsu : t.asu = s.asu

namespace Steady

theorem refl (s : State) : Steady s s := { Undisturbed.refl s with steadyAsu := rfl }

theorem trans {s t u : State} (h : Steady s t) (k : Steady t u) : Steady s u :=
  { h.toUndisturbed.trans k.toUndisturbed with steadyAsu := k.steadyAsu.trans h.steadyAsu }

/-! ### Each write -/

theorem setChannel (s : State) (a : Axis) {c : Channel} (h : (s.channel a).Calms c) : Steady s (s.setChannel a c) :=
  { refl s with
    channels := fun b => by
      rw [State.setChannel_channels, PerAxis.get_set]
      split
      · next e => exact e ▸ h
      · exact .refl _ }

theorem setWalk (s : State) {w : WalkChannel} (h : s.walk.Calms w) : Steady s (s.setWalk w) :=
  { refl s with walk := h }

theorem setFlag (s : State) (f : EventFlag) : Steady s (s.setFlag f) :=
  { refl s with rport := rfl, flags := (onlyTable_setFlag s f).flags }

theorem setPort (s : State) (m : Motion) (p : Port) : Steady s (s.setPort m p) := { refl s with }

theorem setPins (s : State) (p : Pins) : Steady s (s.setPins p) := { refl s with }

theorem setTable (s : State) (t : AlarmTable) : Steady s (s.setTable t) := { refl s with }

theorem setBanks (s : State) {b : ConfigBanks} (h : b.staged = s.banks.staged) : Steady s (s.setBanks b) :=
  { refl s with staged := h }

theorem setDef (s : State) {c : Code} {d : Definition} (h : (s.definition c).SameTerms d) : Steady s (s.setDef c d) :=
  { refl s with
    definitions := fun e => by
      rw [State.definition_setDef]
      split
      · next k => exact k ▸ h
      · exact .refl _ }

/-- A table operation that keeps the terms of every definition (R154 to R163). -/
theorem ofOnlyTable {s t : State} (h : OnlyTable s t) (k : ∀ c, (s.definition c).SameTerms (t.definition c)) :
    Steady s t where
  settings := h.settings
  staged := by rw [h.banks]
  holdAll := h.holdAll
  nextLegId := h.nextLegId
  lines := h.lines
  inputTimer := h.inputTimer
  resetting := h.resetting
  pending := h.pending
  sup := by rw [h.sup]
  rport := h.rport
  flags := h.flags
  asu := by rw [h.asu]
  payouts q := .inl (by cases q <;> simp only [State.rope, h.asu])
  definitions := k
  channels a := by rw [h.channels]; exact .refl _
  walk := by rw [h.walk]; exact .refl _
  legIds := h.plan ▸ List.suffix_refl _
  legs := by rw [h.plan]; exact id
  steadyAsu := h.asu

end Steady

/-! ### The definitions under the operations of the table -/

/-- Every definition keeps its terms. -/
def TermsKept (s t : State) : Prop := ∀ c, (s.definition c).SameTerms (t.definition c)

namespace TermsKept

theorem ofDefs {s t : State} (h : t.defs = s.defs) : TermsKept s t := fun c => by
  rw [State.definition_congr h c]; exact .refl _

theorem refl (s : State) : TermsKept s s := ofDefs rfl

theorem trans {s t u : State} (h : TermsKept s t) (k : TermsKept t u) : TermsKept s u := fun c => (h c).trans (k c)

theorem setDef (s : State) {c : Code} {d : Definition} (h : (s.definition c).SameTerms d) : TermsKept s (s.setDef c d) :=
  (Steady.setDef s h).definitions

theorem createRecord (s : State) (c : Code) : TermsKept s (s.createRecord c) := ofDefs rfl

theorem reviveRecord (s : State) (c : Code) : TermsKept s (s.reviveRecord c) := ofDefs rfl

theorem remove (s : State) (c : Code) : TermsKept s (s.setTable (s.table.remove c)) := ofDefs rfl

theorem setRecordState (s : State) (c : Code) (x : RecordState) : TermsKept s (s.setRecordState c x) := ofDefs rfl

theorem raiseOverflow (s : State) : TermsKept s s.raiseOverflow := by
  have written : TermsKept s (s.setDef .tableOverflow
      { s.definition .tableOverflow with active := true, run := 0, raiseValue := none }) :=
    setDef s ⟨rfl, rfl, rfl, rfl, rfl, rfl, rfl⟩
  unfold State.raiseOverflow
  dsimp only
  split
  · exact written.trans (createRecord _ _)
  · split
    · exact written.trans (reviveRecord _ _)
    · exact written

theorem clearOverflow (s : State) : TermsKept s s.clearOverflow := by
  have written : TermsKept s (s.setDef .tableOverflow
      { s.definition .tableOverflow with active := false, run := 0, raiseValue := none }) :=
    setDef s ⟨rfl, rfl, rfl, rfl, rfl, rfl, rfl⟩
  unfold State.clearOverflow
  dsimp only
  split
  · exact written
  · split <;> exact written.trans (ofDefs rfl)

theorem overflowSample (s : State) : TermsKept s s.overflowSample := by
  unfold State.overflowSample
  dsimp only
  split
  · exact refl s
  · split
    · exact raiseOverflow s
    · exact clearOverflow s

theorem setMarkOf (s : State) (c : Code) (mark : Bool) : TermsKept s (s.setMarkOf c mark) := by
  have marked : TermsKept s (s.setDef c { s.definition c with pendingMark := mark }) :=
    setDef s ⟨rfl, rfl, rfl, rfl, rfl, rfl, rfl⟩
  exact marked.trans (overflowSample _)

theorem raiseNoRoom (s : State) (c : Code) : TermsKept s (s.raiseNoRoom c) := by
  unfold State.raiseNoRoom
  split
  · dsimp only
    refine trans ?_ (createRecord _ _)
    split
    · exact (remove s _).trans (setMarkOf _ _ _)
    · exact remove s _
  · exact setMarkOf s c true

theorem raiseRecord (s : State) (c : Code) : TermsKept s (s.raiseRecord c) := by
  unfold State.raiseRecord
  split
  · split
    · exact reviveRecord s c
    · exact refl s
  · split
    · exact createRecord s c
    · exact raiseNoRoom s c

theorem retireRecord (s : State) (c : Code) : TermsKept s (s.retireRecord c) := by
  unfold State.retireRecord
  dsimp only
  split
  · exact remove s c
  · split
    · exact (remove s c).trans ((setMarkOf _ _ _).trans (createRecord _ _))
    · exact remove s c

theorem clearRecord (s : State) (c : Code) : TermsKept s (s.clearRecord c) := by
  unfold State.clearRecord
  split
  · exact setMarkOf s c false
  · split
    · split
      · exact setRecordState s c _
      · exact retireRecord s c
      · exact retireRecord s c
      · exact refl s
    · exact refl s

end TermsKept

namespace Steady

theorem raiseRecord (s : State) (c : Code) : Steady s (s.raiseRecord c) :=
  ofOnlyTable (onlyTable_raiseRecord s c) (TermsKept.raiseRecord s c)

theorem clearRecord (s : State) (c : Code) : Steady s (s.clearRecord c) :=
  ofOnlyTable (onlyTable_clearRecord s c) (TermsKept.clearRecord s c)

theorem takeSample (s : State) (c : Code) (raw : Bool) (v : Option Int) : Steady s (s.takeSample c raw v).1 := by
  unfold State.takeSample
  dsimp only
  split
  · exact setDef s ⟨rfl, rfl, rfl, rfl, rfl, rfl, rfl⟩
  · split
    · split <;> exact setDef s ⟨rfl, rfl, rfl, rfl, rfl, rfl, rfl⟩
    · exact setDef s ⟨rfl, rfl, rfl, rfl, rfl, rfl, rfl⟩

/-! ### The rope and swing channels -/

theorem closeTo (s : State) (a : Axis) (cause : HaltCause) : Steady s (s.closeTo a cause).1 := by
  have closed : Steady s (s.setChannel a ((s.channel a).close cause)) := setChannel s a ⟨.zero _, .zero _, .zero _⟩
  unfold State.closeTo
  dsimp only
  split <;> exact closed.trans (setFlag _ _)

theorem enterOpening (s : State) (a : Axis) : Steady s (s.enterOpening a).1 :=
  setChannel s a ⟨.refl _, .zero _, .zero _⟩

theorem enterParking (s : State) (a : Axis) : Steady s (s.enterParking a).1 :=
  setChannel s a ⟨.refl _, .zero _, .refl _⟩

theorem enterParked (s : State) (a : Axis) : Steady s (s.enterParked a).1 :=
  setChannel s a ⟨.refl _, .zero _, .zero _⟩

theorem lookParked (s : State) (a : Axis) : Steady s (s.lookParked a).1 := by
  unfold State.lookParked
  dsimp only
  split
  · exact refl s
  · split
    · exact enterOpening s a
    · split
      · exact closeTo s a _
      · exact refl s

theorem reform (s : State) (a : Axis) : Steady s (s.reform a).1 := by
  have formed : Steady s (s.setChannel a { s.channel a with holds := s.holdSet (s.channel a) }) :=
    setChannel s a ⟨.refl _, .refl _, .refl _⟩
  unfold State.reform
  dsimp only
  split
  · split
    · exact formed.trans (enterParking _ a)
    · exact formed
  · split
    · exact formed.trans (enterParking _ a)
    · exact formed
  · split
    · exact formed
    · exact formed.trans (lookParked _ a)
  all_goals exact formed

theorem receiveAt (s : State) (a : Axis) : Steady s (s.receiveAt a).1 := by
  unfold State.receiveAt
  refine trans ?_ (reform _ a)
  exact setChannel s a ⟨.refl _, .refl _, .refl _⟩

theorem sendFinal (s : State) (m : Motion) : Steady s (s.sendFinal m) := by
  unfold State.sendFinal
  split
  · exact setPort s m _
  · exact refl s

theorem tripAt (s : State) (a : Axis) : Steady s (s.tripAt a).1 := by
  unfold State.tripAt
  split
  · exact refl s
  · exact (closeTo s a .trip).trans (sendFinal _ _)

theorem portLostAt (s : State) (a : Axis) : Steady s (s.portLostAt a).1 := by
  unfold State.portLostAt
  split
  · exact refl s
  · exact closeTo s a .port

theorem replyAt (s : State) (a : Axis) (d : DriveStatus) : Steady s (s.replyAt a d).1 := by
  unfold State.replyAt
  dsimp only
  split
  · split
    · exact setChannel s a ⟨.refl _, .refl _, .refl _⟩
    · exact refl s
  · split
    · exact setChannel s a ⟨.refl _, .refl _, .refl _⟩
    · split
      · exact enterParked s a
      · exact refl s
  · split
    · exact setChannel s a ⟨.refl _, .refl _, .refl _⟩
    · split
      · exact closeTo s a .close
      · exact refl s
  all_goals exact refl s

/-! ### The walk -/

theorem walkToIdle (s : State) (cause : HaltCause) : Steady s (s.walkToIdle cause).1 := by
  have idle : Steady s (s.setWalk (s.walk.idleRecord cause)) := setWalk s ⟨.zero _, .zero _, .zero _⟩
  unfold State.walkToIdle
  dsimp only
  split <;> exact idle.trans (setFlag _ _)

theorem walkToStopped (s : State) (cause : HaltCause) : Steady s (s.walkToStopped cause).1 := by
  unfold State.walkToStopped
  refine trans ?_ (setFlag _ _)
  exact setWalk s ⟨.refl _, .zero _, .zero _⟩

theorem walkToClosing (s : State) (origin : ClosingOrigin) (cause : HaltCause) :
    Steady s (s.walkToClosing origin cause).1 := by
  cases origin with
  | park => exact setWalk s ⟨.zero _, .zero _, .zero _⟩
  | other => exact setWalk s ⟨.zero _, .zero _, .refl _⟩

theorem walkToOpening (s : State) (target : WalkTarget) (run : Option WalkRun) :
    Steady s (s.walkToOpening target run).1 := setWalk s ⟨.refl _, .zero _, .zero _⟩

/-- A walk record changed in nothing that is a speed. -/
theorem walkSpeedsKept (s : State) {w : WalkChannel} (hd : w.demand = s.walk.demand) (hp : w.permitted = s.walk.permitted)
    (hr : w.reference = s.walk.reference) : Steady s (s.setWalk w) := setWalk s ⟨.inl hd, .inl hp, .inl hr⟩

theorem walkToHalting (s : State) (dir : CamDir) (counted : Bool) : Steady s (s.walkToHalting dir counted).1 :=
  walkSpeedsKept s rfl rfl rfl

theorem haltWalk (s : State) (cause : HaltCause) : Steady s (s.haltWalk cause).1 := by
  unfold State.haltWalk
  split
  · unfold State.haltOpening
    split
    · exact walkSpeedsKept s rfl rfl rfl
    · exact refl s
    · exact walkToClosing s _ _
    · exact walkToClosing s _ _
    · exact refl s
  · unfold State.haltStepping
    split
    · exact walkToClosing s _ _
    · split <;> exact walkToHalting s _ _
  · exact walkToClosing s _ _
  all_goals exact refl s

theorem reformHalts (s : State) : Steady s s.reformHalts.1 := by
  have formed : Steady s (s.setWalk { s.walk with halts := ⟨s.holdAll, s.walk.alarmHold⟩ }) :=
    walkSpeedsKept s rfl rfl rfl
  unfold State.reformHalts
  dsimp only
  split
  · exact formed.trans (haltWalk _ _)
  · exact formed

theorem receiveAtWalk (s : State) : Steady s s.receiveAtWalk.1 := by
  unfold State.receiveAtWalk
  refine trans ?_ (reformHalts _)
  exact walkSpeedsKept s rfl rfl rfl

theorem tripAtWalk (s : State) : Steady s s.tripAtWalk.1 := by
  have stop : Steady s ((s.walkToStopped .trip).1.sendFinal .walk) := (walkToStopped s _).trans (sendFinal _ _)
  have idle : Steady s ((s.walkToIdle .trip).1.sendFinal .walk) := (walkToIdle s _).trans (sendFinal _ _)
  unfold State.tripAtWalk
  dsimp only
  split
  · exact refl s
  · exact refl s
  · exact stop
  · exact stop
  · exact idle
  · split
    · exact idle
    · exact stop
  · split
    · split
      · exact idle
      · exact stop
    · exact idle
    · exact idle

theorem portLostAtWalk (s : State) : Steady s s.portLostAtWalk.1 := by
  unfold State.portLostAtWalk
  split
  · exact refl s
  · exact (walkToIdle s .port).trans (setFlag _ _)

theorem walkConfirmed (s : State) : Steady s s.walkConfirmed.1 := by
  have stopped : Steady s (s.setWalk { s.walk with openTimer := none }) := walkSpeedsKept s rfl rfl rfl
  unfold State.walkConfirmed
  dsimp only
  split
  · split
    · exact stopped.trans (walkToClosing _ _ _)
    · exact stopped.trans (walkSpeedsKept _ rfl rfl rfl)
  · split
    · exact stopped.trans (walkSpeedsKept _ rfl rfl rfl)
    · exact stopped.trans (walkToStopped _ _)
  · split
    · split
      · exact stopped.trans (walkToHalting _ _ _)
      · exact stopped
    · exact stopped.trans (walkToStopped _ _)
  · exact stopped.trans (walkSpeedsKept _ rfl rfl rfl)
  · exact stopped

theorem replyAtWalk (s : State) (d : DriveStatus) : Steady s (s.replyAtWalk d).1 := by
  unfold State.replyAtWalk
  dsimp only
  split
  · split
    · exact walkConfirmed s
    · exact refl s
  · split
    · exact walkSpeedsKept s rfl rfl rfl
    · split
      · unfold State.walkClosed
        split
        · split
          · exact walkToIdle s _
          · exact walkToStopped s _
        · exact walkToIdle s _
        · exact refl s
      · exact refl s
  all_goals exact refl s

/-- A counted step takes the head leg one step on, or off the plan at its last (R99, R110). -/
theorem countStep (s : State) (dir : CamDir) : Steady s (s.countStep dir).1 := by
  unfold State.countStep
  split
  · next r l rest _ plan =>
    split
    · split
      · refine trans (t := s.setPlan rest) { refl s with legIds := ?_, legs := ?_ } (setFlag _ _)
        · rw [plan]; exact List.suffix_cons _ _
        · intro h x hx
          exact h x (by rw [plan]; exact List.mem_cons_of_mem _ hx)
      · next more =>
        refine { refl s with legIds := ?_, legs := ?_ }
        · rw [plan]; exact List.suffix_refl _
        · intro h x hx
          rw [plan] at h
          rcases List.mem_cons.1 hx with rfl | hx
          · obtain ⟨low, high, left, rest⟩ := h l List.mem_cons_self
            exact ⟨low, high, Nat.lt_of_le_of_ne left more, rest⟩
          · exact h x (List.mem_cons_of_mem _ hx)
    · exact refl s
  · exact refl s

theorem arriveAtPark (s : State) (dir : CamDir) : Steady s (s.arriveAtPark dir).1 := by
  unfold State.arriveAtPark
  split
  · exact countStep s dir
  · split
    · exact countStep s dir
    · exact refl s
  all_goals exact refl s

theorem decideAtPark (s : State) (dir : CamDir) : Steady s (s.decideAtPark dir).1 := by
  unfold State.decideAtPark
  split
  · exact refl s
  · split
    · exact walkToClosing s _ _
    · split
      · exact walkToClosing s _ _
      · split
        · exact walkToClosing s _ _
        · split
          · exact walkToClosing s _ _
          · cases dir with
            | forward => exact setWalk s ⟨.refl _, .refl _, .refl _⟩
            | reverse => exact setWalk s ⟨.refl _, .refl _, .zero _⟩

theorem endHalt (s : State) : Steady s s.endHalt.1 := by
  unfold State.endHalt
  split
  · exact walkToClosing s _ _
  · exact refl s

/-! ### The other blocks -/

theorem receiveAtSupervisor (s : State) : Steady s s.receiveAtSupervisor.1 := by
  unfold State.receiveAtSupervisor
  dsimp only
  split <;> exact { refl s with sup := rfl }

theorem testCommit (s : State) : Steady s s.testCommit := by
  unfold State.testCommit
  split
  · exact refl s
  · split
    · unfold State.completeCommit State.handGeneration
      dsimp only
      have stored (b : ConfigBanks) (h : b.staged = s.banks.staged) : Steady s ((s.setBanks b).setFlag .commitDone) :=
        (setBanks s h).trans (setFlag _ _)
      split
      · exact (stored _ rfl).trans { refl _ with sup := rfl }
      · exact stored _ rfl
    · exact setBanks s rfl

theorem evaluateHold (s : State) : Steady s s.evaluateHold := by
  have noted : Steady s { s with holdEffective := s.holdEffectiveNow } := { refl s with }
  unfold State.evaluateHold
  dsimp only
  split
  · exact noted.trans (setFlag _ _)
  · exact noted

/-! ### Every delivery -/

theorem perform {act : Act} (h : act.movesAsu = false) (s : State) : Steady s (perform act s).1 := by
  cases act with
  | sample c raw v => exact takeSample s c raw v
  | maintSample => exact takeSample s _ _ _
  | faultState a => exact nomatch h
  | tableRaise c => exact raiseRecord s c
  | tableClear c => exact clearRecord s c
  | deliver => exact (setTable s _).trans (setPins _ _)
  | receiveChannel a => exact receiveAt s a
  | receiveWalk => exact receiveAtWalk s
  | receiveSupervisor => exact receiveAtSupervisor s
  | reformChannel a => exact reform s a
  | reformWalk => exact reformHalts s
  | channelChanged a => exact refl s
  | walkChanged => exact refl s
  | parkedLook a => exact lookParked s a
  | commitTest => exact testCommit s
  | holdEffective => exact evaluateHold s
  | tripChannel a => exact tripAt s a
  | tripWalk => exact tripAtWalk s
  | tripFlag => exact setFlag s .trip
  | portLost m =>
    cases m with
    | hoist => exact portLostAt s .hoist
    | drag => exact portLostAt s .drag
    | swing => exact portLostAt s .swing
    | walk => exact portLostAtWalk s
  | reply m d =>
    cases m with
    | hoist => exact replyAt s .hoist d
    | drag => exact replyAt s .drag d
    | swing => exact replyAt s .swing d
    | walk => exact replyAtWalk s d
  | beginWalk => exact walkToOpening s _ _
  | beginRecovery => exact walkToOpening s _ _
  | formPosition a => exact nomatch h
  | envelopeSample => exact refl s
  | nogoSample => exact refl s
  | parkArrival dir => exact arriveAtPark s dir
  | parkDecide dir => exact decideAtPark s dir
  | haltClose => exact endHalt s

end Steady

namespace Undisturbed

/-! ### The ASU -/

/-- A rope axis whose payout and referenced flag alone change, the payout within its range where it moves. -/
theorem setRope (s : State) (r : Rope) (p : Nat) (ref : Bool) (h : p = (s.rope r).payout ∨ p ≤ Config.maxPayout) :
    Undisturbed s (s.setRope r { s.rope r with payout := p, referenced := ref }) := by
  cases r with
  | hoist => exact { refl s with asu := rfl, payouts := fun q => match q with | .hoist => h | .drag => .inl rfl }
  | drag => exact { refl s with asu := rfl, payouts := fun q => match q with | .hoist => .inl rfl | .drag => h }

theorem setSwing (s : State) (a : Angle) (ref : Bool) :
    Undisturbed s (s.setAsu { s.asu with swing := { s.asu.swing with angle := a, referenced := ref } }) :=
  { refl s with asu := rfl, payouts := fun q => by cases q <;> exact .inl rfl }

theorem faultAt (s : State) (a : Axis) : Undisturbed s (s.faultAt a).1 := by
  unfold State.faultAt
  split
  · cases a with
    | hoist => exact setRope s .hoist _ false (.inl rfl)
    | drag => exact setRope s .drag _ false (.inl rfl)
    | swing => exact setSwing s _ false
  · exact refl s

theorem formPayout (s : State) (r : Rope) : Undisturbed s (s.formPayout r).1 := by
  unfold State.formPayout
  dsimp only
  split
  · exact setRope s r _ _ (.inr (clampInt_nat_le _))
  · exact refl s

theorem formAt (s : State) (a : Axis) : Undisturbed s (s.formAt a).1 := by
  cases a with
  | hoist => exact formPayout s .hoist
  | drag => exact formPayout s .drag
  | swing =>
    unfold State.formAt State.formAngle
    dsimp only
    split
    · exact setSwing s _ _
    · exact refl s

theorem perform (act : Act) (s : State) : Undisturbed s (perform act s).1 := by
  cases moves : act.movesAsu with
  | false => exact (Steady.perform moves s).toUndisturbed
  | true =>
    cases act with
    | faultState a => exact faultAt s a
    | formPosition a => exact formAt s a
    | _ => exact nomatch moves

end Undisturbed

/-- A whole event leaves alone, from the state its own rule left, what no delivery touches. -/
theorem settle_undisturbed (r : State × List Act) : Undisturbed r.1 (settle r) :=
  settle_keeps (P := Undisturbed r.1) (fun act _ h => h.trans (.perform act _)) r (.refl _)

end Sys2Proof.Machine

namespace Sys2Proof.Machine

/-- A flag that stands in a set stands in every set that takes it in (R191). -/
theorem EventFlag.isIn_of_subset {f : EventFlag} {w x : Word16} (h : w &&& x = w) (k : f.isIn w = true) : f.isIn x = true := by
  unfold EventFlag.isIn at k ⊢
  rw [← h, BitVec.getLsbD_and] at k
  exact (Bool.and_eq_true_iff.1 k).2

/-- No delivery moves a drum count or a reference point (R2, R5). -/
theorem Undisturbed.rope_counts {s t : State} (h : Undisturbed s t) (q : Rope) :
    (t.rope q).count = (s.rope q).count ∧ (t.rope q).refCount = (s.rope q).refCount ∧
      (t.rope q).refPayout = (s.rope q).refPayout := by
  cases q with
  | hoist =>
    exact ⟨congrArg (·.hoist.count) h.asu, congrArg (·.hoist.refCount) h.asu, congrArg (·.hoist.refPayout) h.asu⟩
  | drag =>
    exact ⟨congrArg (·.drag.count) h.asu, congrArg (·.drag.refCount) h.asu, congrArg (·.drag.refPayout) h.asu⟩

end Sys2Proof.Machine

section
open Sys2Proof Sys2Proof.Machine

/-- Settles O43, from the one relation that every delivery and so every event keeps. -/
theorem deliveriesLeaveTheRestAlone : Obligations.DeliveriesLeaveTheRestAlone := by
  unfold Obligations.DeliveriesLeaveTheRestAlone
  intro s acts t
  have kept : Undisturbed s t := settle_undisturbed (s, acts)
  have terms (c : Code) := kept.definitions c
  exact ⟨kept.settings, kept.staged, kept.holdAll, kept.nextLegId, kept.lines, kept.inputTimer, kept.resetting,
    kept.pending, congrArg (·.cause) kept.sup, congrArg (·.lapsed) kept.sup, congrArg (·.watchdog) kept.sup,
    congrArg (·.buffer) kept.rport, congrArg (·.previous) kept.rport, congrArg (·.sending) kept.rport,
    congrArg (·.mask) kept.rport, congrArg (·.snapshot) kept.rport, fun _ => EventFlag.isIn_of_subset kept.flags,
    kept.rope_counts, congrArg (·.swing.count) kept.asu, congrArg (·.swing.indexCount) kept.asu,
    congrArg (·.teeth) kept.asu, congrArg (·.camReferenced) kept.asu, congrArg (·.pitch) kept.asu,
    congrArg (·.roll) kept.asu, congrArg (·.stale) kept.asu, congrArg (·.tiltFrame) kept.asu,
    fun c => ⟨(terms c).cls, (terms c).scope, (terms c).persistence, (terms c).cap, (terms c).polarity⟩⟩

end

namespace Sys2Proof.Machine

/-! ## What else leaves the same alone: port events and expiries -/

namespace Steady

theorem enterClosing (s : State) (a : Axis) : Steady s (s.enterClosing a).1 :=
  setChannel s a ⟨.zero _, .zero _, .refl _⟩

theorem openExpiry (s : State) (a : Axis) : Steady s (s.openExpiry a).1 := by
  unfold State.openExpiry
  dsimp only
  split
  · exact closeTo s a _
  · exact refl s

theorem restExpiry (s : State) (a : Axis) : Steady s (s.restExpiry a) := by
  unfold State.restExpiry
  dsimp only
  split
  · exact setChannel s a ⟨.refl _, .refl _, .refl _⟩
  · exact refl s

theorem demandExpiry (s : State) (a : Axis) : Steady s (s.demandExpiry a).1 := by
  unfold State.demandExpiry
  dsimp only
  split
  · exact setChannel s a ⟨.zero _, .refl _, .refl _⟩
  · exact refl s

theorem walkOpenExpiry (s : State) : Steady s s.walkOpenExpiry.1 := by
  unfold State.walkOpenExpiry
  split
  · split
    · exact (setFlag s _).trans (walkToStopped _ _)
    · exact (setFlag s _).trans (walkToStopped _ _)
    all_goals exact walkToIdle s _
  · exact refl s

theorem walkRestExpiry (s : State) : Steady s s.walkRestExpiry := by
  unfold State.walkRestExpiry
  dsimp only
  split
  · exact walkSpeedsKept s rfl rfl rfl
  · exact refl s

theorem anyRestExpiry (s : State) (m : Motion) : Steady s (s.anyRestExpiry m) := by
  cases m with
  | hoist => exact restExpiry s .hoist
  | drag => exact restExpiry s .drag
  | swing => exact restExpiry s .swing
  | walk => exact walkRestExpiry s

theorem walkDemandExpiry (s : State) : Steady s s.walkDemandExpiry := by
  unfold State.walkDemandExpiry
  split
  · exact setWalk s ⟨.zero _, .refl _, .refl _⟩
  · exact refl s

theorem commitExpiry (s : State) : Steady s s.commitExpiry := by
  unfold State.commitExpiry
  split
  · exact refl s
  · refine trans ?_ (setFlag _ _)
    exact setBanks s rfl

/-! ### Ports -/

theorem changePort (s : State) (m : Motion) (state : PortState) (cause : PortCause) :
    Steady s (s.changePort m state cause) := (setPort s m _).trans (setFlag _ _)

theorem leaveEnabled (s : State) (m : Motion) (state : PortState) (cause : PortCause) (condition : List Act) :
    Steady s (s.leaveEnabled m state cause condition).1 := (changePort s m state cause).trans (setPort _ _ _)

theorem countMiss (s : State) (m : Motion) : Steady s (s.countMiss m).1 := by
  unfold State.countMiss
  dsimp only
  split
  · exact (setPort s m _).trans (leaveEnabled _ _ _ _ _)
  · exact setPort s m _

theorem goodReply (s : State) (m : Motion) (d : DriveStatus) : Steady s (s.goodReply m d).1 := by
  unfold State.goodReply
  dsimp only
  split
  · exact (setPort s m _).trans (leaveEnabled _ _ _ _ _)
  · exact (setPort s m _).trans (setPort _ _ _)

theorem judgeFrame (s : State) (m : Motion) (f : Option StatusFrame) : Steady s (s.judgeFrame m f).1 := by
  unfold State.judgeFrame
  split
  · exact refl s
  · split
    · exact refl s
    · split
      · exact countMiss s m
      · split
        · exact goodReply s m _
        · split
          · exact refl s
          · exact countMiss s m

theorem enquiryReply (s : State) (m : Motion) (f : Option StatusFrame) : Steady s (s.enquiryReply m f).1 := by
  unfold State.enquiryReply
  dsimp only
  split
  · split
    · split
      · exact (changePort s m _ _).trans (setPort _ _ _)
      · exact setPort s m _
    · exact refl s
  · exact refl s

theorem receiveStatus (s : State) (m : Motion) (bytes : List Byte) : Steady s (s.receiveStatus m bytes).1 := by
  unfold State.receiveStatus
  split
  · exact judgeFrame s m _
  · exact enquiryReply s m _
  all_goals exact refl s

theorem resetTick (s : State) (m : Motion) : Steady s (s.resetTick m).1 := by
  unfold State.resetTick
  dsimp only
  split
  · split
    · split <;> exact setPort s m _
    · split
      · exact setPort s m _
      · exact (setPort s m _).trans (changePort _ _ _ _)
  · exact refl s

theorem presenceTaken (s : State) (m : Motion) (active : Bool) : Steady s (s.presenceTaken m active).1 := by
  unfold State.presenceTaken
  dsimp only
  split
  · exact changePort s m _ _
  · exact leaveEnabled s m _ _ _
  · exact changePort s m _ _
  · exact changePort s m _ _
  · exact (setPort s m _).trans (changePort _ _ _ _)
  · exact refl s

theorem watchExpiry (s : State) (m : Motion) : Steady s (s.watchExpiry m).1 := by
  unfold State.watchExpiry
  dsimp only
  split
  · exact refl s
  · split <;> exact setPort s m _

theorem beginResetSequence (s : State) (m : Motion) : Steady s (s.beginResetSequence m) := setPort s m _

theorem sendReference (s : State) (m : Motion) (h : Handed) : Steady s (s.sendReference m h) := setPort s m _

end Steady

/-! ## Bounds of terms, permitted values and references -/

/-- On a segment that fits x the value stays on or above 0 (R34). -/
theorem segmentValue_nonneg {p q : Point} {x : Nat} (low : p.x ≤ x) (high : x < q.x) : 0 ≤ segmentValue p q x := by
  have along : (0 : Int) ≤ (x : Int) - p.x := by omega
  have length : (0 : Int) < (q.x : Int) - p.x := by omega
  unfold segmentValue
  rcases Nat.le_total p.y q.y with up | down
  · have : 0 ≤ (((q.y : Int) - p.y) * ((x : Int) - p.x)).tdiv ((q.x : Int) - p.x) :=
      Int.tdiv_nonneg (Int.mul_nonneg (by omega) along) (Int.le_of_lt length)
    omega
  · have fall : (0 : Int) ≤ (p.y : Int) - q.y := by omega
    have product : 0 ≤ ((p.y : Int) - q.y) * ((x : Int) - p.x) := Int.mul_nonneg fall along
    have whole : ((p.y : Int) - q.y) * ((x : Int) - p.x) ≤ ((p.y : Int) - q.y) * ((q.x : Int) - p.x) :=
      Int.mul_le_mul_of_nonneg_left (by omega) fall
    have fallen : (((p.y : Int) - q.y) * ((x : Int) - p.x)).tdiv ((q.x : Int) - p.x) ≤ (p.y : Int) - q.y := by
      rw [Int.tdiv_eq_ediv_of_nonneg product]
      exact Int.ediv_le_of_le_mul length whole
    rw [show ((q.y : Int) - p.y) = -((p.y : Int) - q.y) by omega, Int.neg_mul, Int.neg_tdiv]
    omega

theorem segmentSearch_nonneg (x : Nat) (rest : List Point) : ∀ p : Point, 0 ≤ segmentSearch p rest x := by
  induction rest with
  | nil => intro p; exact Int.natCast_nonneg _
  | cons q more ih =>
    intro p
    unfold segmentSearch
    split
    · next fits => exact segmentValue_nonneg fits.1 fits.2
    · exact ih q

/-- The value of a curve is never below 0 (R34). -/
theorem evalPoints_nonneg (pts : List Point) (x : Nat) : 0 ≤ evalPoints pts x := by
  unfold evalPoints
  split
  · exact Int.le_refl 0
  · split
    · exact Int.natCast_nonneg _
    · dsimp only
      split
      · exact Int.natCast_nonneg _
      · exact segmentSearch_nonneg _ _ _

theorem Curve.value_nonneg {c : Curve} {x : Nat} {v : Int} (h : c.value x = some v) : 0 ≤ v := by
  unfold Curve.value at h
  split at h
  · cases h; exact evalPoints_nonneg _ _
  · cases h

/-- A taper with its creep within 1000 is never below 0 (R41). -/
theorem taper_nonneg (b c : Nat) (m : Int) (h : c ≤ 1000) : 0 ≤ taper b c m := by
  unfold taper
  split
  · exact Int.le_refl 0
  · split
    · decide
    · have : 0 ≤ ((1000 - (c : Int)) * m).tdiv b :=
        Int.tdiv_nonneg (Int.mul_nonneg (by omega) (by omega)) (Int.natCast_nonneg _)
      omega

/-- A braking term is never below 0 (R42). -/
theorem State.brakingOf_nonneg (s : State) (distance : Option Nat) : 0 ≤ s.brakingOf distance := by
  unfold State.brakingOf
  split
  · decide
  · split
    · next h => exact Int.le_min.2 ⟨Curve.value_nonneg h, by decide⟩
    · exact Int.le_refl 0

/-- Creep settings within their range keep every limiting term on or above 0 (R41, R42, R50). -/
theorem State.limitingTerms_nonneg {s : State} (creep : ∀ a, s.cfg (creepOf a) ≤ 1000) (a : Axis) (v : Int) :
    0 ≤ (s.limitingTerms a).along v := by
  have both : 0 ≤ (s.limitingTerms a).pos ∧ 0 ≤ (s.limitingTerms a).neg := by
    cases a with
    | hoist => exact ⟨taper_nonneg _ _ _ (creep .hoist), taper_nonneg _ _ _ (creep .hoist)⟩
    | drag => exact ⟨taper_nonneg _ _ _ (creep .drag), taper_nonneg _ _ _ (creep .drag)⟩
    | swing =>
      unfold State.limitingTerms State.brakingTerms
      dsimp only
      split
      · decide
      · exact ⟨brakingOf_nonneg _ _, brakingOf_nonneg _ _⟩
  unfold Directions.along
  split
  · exact both.1
  · exact both.2

/-- A demand cut to a term that is not below 0 keeps its sign and does not grow (R49). -/
theorem signed_min_natAbs {d t : Int} (h : 0 ≤ t) : (signed d (min (magnitude d) t)).natAbs ≤ d.natAbs := by
  refine Nat.le_trans (signed_natAbs _ _) ?_
  unfold magnitude
  omega

/-- An update reads no more than the demand stored (R44). -/
theorem Channel.readDemand_natAbs (c : Channel) : c.readDemand.natAbs ≤ c.demand.natAbs := by
  unfold Channel.readDemand
  split
  · simp
  · exact Nat.le_refl _

/-- A permitted value is no greater than its demand (R45 to R49). -/
theorem State.permittedValue_natAbs {s : State} (creep : ∀ a, s.cfg (creepOf a) ≤ 1000) (a : Axis) (c : Channel) :
    (s.permittedValue a c).natAbs ≤ c.demand.natAbs := by
  refine Nat.le_trans ?_ c.readDemand_natAbs
  have terms := limitingTerms_nonneg creep a c.readDemand
  unfold State.permittedValue
  split
  · unfold State.permittedFollow
    dsimp only
    split <;> exact signed_min_natAbs (by omega)
  · exact signed_min_natAbs (by omega)

/-- A ramped reference stays between its old magnitude and that of the permitted value (R78). -/
theorem ramp_natAbs {accel decel : Int} (ha : 0 ≤ accel) (hd : 0 ≤ decel) (r p : Int) {n : Nat} (hr : r.natAbs ≤ n)
    (hp : p.natAbs ≤ n) : (ramp accel decel r p).natAbs ≤ n := by
  unfold ramp magnitude
  split
  · exact Nat.le_trans (towardZero_bounds r decel hd).1 hr
  · split
    · split
      · exact hp
      · split <;> omega
    · split
      · split
        · exact hp
        · split <;> omega
      · exact hr

theorem State.newReference_natAbs (s : State) (a : Axis) (c : Channel) (p : Int) {n : Nat} (hr : c.reference.natAbs ≤ n)
    (hp : p.natAbs ≤ n) : (s.newReference a c p).natAbs ≤ n := by
  unfold State.newReference
  split
  · exact Nat.zero_le _
  · exact ramp_natAbs (Int.natCast_nonneg _) (Int.natCast_nonneg _) _ _ hr hp

/-- The walk's permitted value is within 1000 when the speeds of its demand, legs and WALK_CREEP are (R48, R109). -/
theorem State.walkPermitted_natAbs {s : State} (demand : s.walk.demand.natAbs ≤ 1000) (creep : s.cfg .walkCreep ≤ 1000)
    (legs : ∀ l ∈ s.plan, l.speed ≤ 1000) : s.walkPermitted.natAbs ≤ 1000 := by
  have head : 0 ≤ s.headSpeed ∧ s.headSpeed ≤ 1000 := by
    unfold State.headSpeed
    split
    · next l _ plan => have := legs l (by rw [plan]; exact List.mem_cons_self); omega
    · omega
  have run (r : WalkRun) : (s.runPermitted r).natAbs ≤ 1000 := by
    unfold State.runPermitted
    dsimp only
    split
    · omega
    · split <;> omega
  have limited (c : Bool) (p : Int) (h : p.natAbs ≤ 1000) :
      (if c && decide (0 < p) then min p (s.cfg .walkCreep) else p).natAbs ≤ 1000 := by
    split
    · next k =>
      have : 0 < p := by simpa using (Bool.and_eq_true_iff.1 k).2
      omega
    · exact h
  unfold State.walkPermitted
  dsimp only
  split
  · exact limited _ _ (run _)
  · exact limited _ _ (run _)
  · exact Nat.le_trans (signed_min_natAbs (by omega)) demand
  · exact Nat.zero_le _

end Sys2Proof.Machine

namespace Sys2Proof.Machine

/-! ## The ranges (R3, R4, R7, R14, R49, R75, R78, R99, R195) -/

/-- Every setting within its range (12.10). -/
def State.settingsInRange (s : State) : Prop := ∀ k ∈ Setting.all, k.row.lo ≤ s.cfg k ∧ s.cfg k ≤ k.row.hi

/-- The positions, swing counts and tilt of the ASU within their ranges, for a SWING_CPT. -/
structure AxisUnit.InRange (u : AxisUnit) (cpt : Nat) : Prop where
  hoist : u.hoist.inRange
  drag : u.drag.inRange
  count : u.swing.count < cpt
  indexCount : u.swing.indexCount < cpt
  pitch : u.pitch.natAbs ≤ 3000
  roll : u.roll.natAbs ≤ 3000

/-- The walk channel's demand, permitted value and reference within ±1000. -/
def WalkChannel.speedsInRange (w : WalkChannel) : Prop :=
  w.demand.natAbs ≤ 1000 ∧ w.permitted.natAbs ≤ 1000 ∧ w.reference.natAbs ≤ 1000

/-- Settings, positions, speeds and the walk plan within their ranges, block by block. -/
structure State.Ranged (s : State) : Prop where
  settings : s.settingsInRange
  asu : s.asu.InRange (s.cfg .swingCpt)
  channels : ∀ a, (s.channels.get a).speedsInRange
  walk : s.walk.speedsInRange
  plan : s.planSound

theorem State.ranged_iff (s : State) : s.Ranged ↔ s.sensingInRange ∧ s.speedsInRange ∧ s.planSound := by
  constructor
  · rintro ⟨settings, asu, channels, walk, plan⟩
    exact ⟨⟨settings, asu.hoist, asu.drag, asu.count, asu.indexCount, asu.pitch, asu.roll⟩,
      ⟨channels .hoist, channels .drag, channels .swing, walk⟩, plan⟩
  · rintro ⟨⟨settings, hoist, drag, count, index, pitch, roll⟩, ⟨ch, cd, cs, walk⟩, plan⟩
    exact ⟨settings, ⟨hoist, drag, count, index, pitch, roll⟩, fun a => by cases a <;> assumption, walk, plan⟩

theorem State.sound.ranged {s : State} (h : s.sound) : s.Ranged := by
  obtain ⟨_, _, _, _, _, sensing, speeds, plan, _⟩ := h
  exact s.ranged_iff.2 ⟨sensing, speeds, plan⟩

theorem Channel.Calms.speedsInRange {c d : Channel} (h : c.Calms d) (k : c.speedsInRange) : d.speedsInRange :=
  ⟨Nat.le_trans h.demand.natAbs_le k.1, Nat.le_trans h.permitted.natAbs_le k.2.1, Nat.le_trans h.reference.natAbs_le k.2.2⟩

theorem WalkChannel.Calms.speedsInRange {w x : WalkChannel} (h : w.Calms x) (k : w.speedsInRange) : x.speedsInRange :=
  ⟨Nat.le_trans h.demand.natAbs_le k.1, Nat.le_trans h.permitted.natAbs_le k.2.1, Nat.le_trans h.reference.natAbs_le k.2.2⟩

/-- What leaves the rest alone keeps the ranges: positions move within theirs, speeds only to 0, the plan only onward. -/
theorem Undisturbed.ranged {s t : State} (h : Undisturbed s t) (k : s.Ranged) : t.Ranged := by
  have cfg (x : Setting) : t.cfg x = s.cfg x := State.cfg_congr h.settings x
  have rope (q : Rope) (x : (s.rope q).inRange) : (t.rope q).inRange := by
    refine ⟨?_, (h.rope_counts q).2.2 ▸ x.2⟩
    rcases h.payouts q with same | moved
    · exact same ▸ x.1
    · exact moved
  obtain ⟨legCount, legs, ids, next⟩ := k.plan
  refine ⟨fun x hx => cfg x ▸ k.settings x hx, ?_, fun a => (h.channels a).speedsInRange (k.channels a),
    h.walk.speedsInRange k.walk, ?_, h.legs legs, ids.sublist h.legIds.sublist, h.nextLegId ▸ next⟩
  · rw [cfg]
    exact ⟨rope .hoist k.asu.hoist, rope .drag k.asu.drag, congrArg (·.swing.count) h.asu ▸ k.asu.count,
      congrArg (·.swing.indexCount) h.asu ▸ k.asu.indexCount, congrArg (·.pitch) h.asu ▸ k.asu.pitch,
      congrArg (·.roll) h.asu ▸ k.asu.roll⟩
  · have := h.legIds.length_le
    simp only [List.length_map] at this
    exact Nat.le_trans this legCount

namespace State.Ranged

variable {s : State}

theorem settle {r : State × List Act} (h : r.1.Ranged) : (settle r).Ranged := (settle_undisturbed r).ranged h

theorem cfg_le (h : s.Ranged) (k : Setting) : s.cfg k ≤ k.row.hi := (h.settings k (Setting.mem_all k)).2

theorem creep_le (h : s.Ranged) (a : Axis) : s.cfg (creepOf a) ≤ 1000 := by
  refine Nat.le_trans (h.cfg_le _) ?_
  cases a <;> decide

/-! ### Writes that the ranges do not read, and those they do -/

theorem setSup (h : s.Ranged) (x : Supervisor) : (s.setSup x).Ranged := ⟨h.1, h.2, h.3, h.4, h.5⟩

theorem setRport (h : s.Ranged) (x : RequestPort) : (s.setRport x).Ranged := ⟨h.1, h.2, h.3, h.4, h.5⟩

theorem setTable (h : s.Ranged) (x : AlarmTable) : (s.setTable x).Ranged := ⟨h.1, h.2, h.3, h.4, h.5⟩

theorem setPins (h : s.Ranged) (x : Pins) : (s.setPins x).Ranged := ⟨h.1, h.2, h.3, h.4, h.5⟩

theorem setBanks (h : s.Ranged) (x : ConfigBanks) : (s.setBanks x).Ranged := ⟨h.1, h.2, h.3, h.4, h.5⟩

theorem setDef (h : s.Ranged) (c : Code) (d : Definition) : (s.setDef c d).Ranged := ⟨h.1, h.2, h.3, h.4, h.5⟩

theorem setFlagWords (h : s.Ranged) (flags mask : Word16) : (s.setFlagWords flags mask).Ranged := ⟨h.1, h.2, h.3, h.4, h.5⟩

theorem setFlag (h : s.Ranged) (f : EventFlag) : (s.setFlag f).Ranged := h.setFlagWords _ _

theorem setPending (h : s.Ranged) (l : List Instr) : ({ s with pending := l } : State).Ranged := ⟨h.1, h.2, h.3, h.4, h.5⟩

theorem setChannel (h : s.Ranged) (a : Axis) {c : Channel} (k : c.speedsInRange) : (s.setChannel a c).Ranged :=
  ⟨h.1, h.2, fun b => by
    rw [State.setChannel_channels, PerAxis.get_set]
    split
    · exact k
    · exact h.3 b, h.4, h.5⟩

theorem setWalk (h : s.Ranged) {w : WalkChannel} (k : w.speedsInRange) : (s.setWalk w).Ranged := ⟨h.1, h.2, h.3, k, h.5⟩

theorem setAsu (h : s.Ranged) {u : AxisUnit} (k : u.InRange (s.cfg .swingCpt)) : (s.setAsu u).Ranged :=
  ⟨h.1, k, h.3, h.4, h.5⟩

theorem setRope (h : s.Ranged) (r : Rope) {x : RopeAxis} (k : x.inRange) : (s.setRope r x).Ranged := by
  cases r with
  | hoist => exact h.setAsu { h.asu with hoist := k }
  | drag => exact h.setAsu { h.asu with drag := k }

theorem rope (h : s.Ranged) (r : Rope) : (s.rope r).inRange := by
  cases r with
  | hoist => exact h.asu.hoist
  | drag => exact h.asu.drag

theorem withPlan (h : s.Ranged) {plan : List Leg} {next : Nat} (k : (s.withPlan plan next).planSound) :
    (s.withPlan plan next).Ranged := ⟨h.1, h.2, h.3, h.4, k⟩

/-- A plan that keeps some of the legs, in their order (R101, R102). -/
theorem setPlan (h : s.Ranged) {plan : List Leg} (k : plan.Sublist s.plan) : (s.setPlan plan).Ranged := by
  obtain ⟨legCount, legs, ids, next⟩ := h.plan
  exact ⟨h.1, h.2, h.3, h.4, Nat.le_trans k.length_le legCount, fun l hl => legs l (k.subset hl), ids.sublist (k.map _), next⟩

/-- A setting written within its range; SWING_CPT only where the swing counts stay below it. -/
theorem setSetting (h : s.Ranged) {k : Setting} {v : Nat} (hv : k.row.lo ≤ v ∧ v ≤ k.row.hi)
    (hu : s.asu.InRange ((s.setSetting k v).cfg .swingCpt)) : (s.setSetting k v).Ranged :=
  ⟨fun j hj => by
    rw [State.cfg_setSetting]
    split
    · next e => exact e ▸ hv
    · exact h.settings j hj, hu, h.3, h.4, h.5⟩

/-! ### Requests -/

theorem respond (h : s.Ranged) (r : Response) : (s.respond r).Ranged := h.setRport _

theorem receiveFrame (h : s.Ranged) : s.receiveFrame.Ranged := settle ((h.setRport _).setSup _)

/-- A request whose owner keeps the ranges keeps them. -/
theorem request (h : s.Ranged) (x : Header) (code : Byte) (ok : Bool) {owner : State → Answer}
    (own : ∀ u : State, u.Ranged → (owner u).state.Ranged) : (s.request x code ok owner).Ranged := by
  unfold State.request
  split
  · exact h.setRport _
  · dsimp only
    split
    · exact (settle (own _ h.receiveFrame)).respond _
    · exact h.receiveFrame.respond _

/-- An event whose own effect keeps the ranges keeps them. -/
theorem event (h : s.Ranged) {f : State → State × List Act} (own : (f s).1.Ranged) : (s.event f).Ranged := by
  unfold State.event
  split
  · exact h
  · exact settle own

end State.Ranged

end Sys2Proof.Machine

namespace Sys2Proof.Machine

/-! ## Fresh leg ids (R99) -/

/-- The id k places after another, counted round from 255 to 1. -/
def legIdAfter (k id : Nat) : Nat := (id - 1 + k) % 255 + 1

theorem legIdAfter_zero {id : Nat} (low : 1 ≤ id) (high : id ≤ 255) : legIdAfter 0 id = id := by
  unfold legIdAfter; omega

theorem legIdAfter_nextLeg {id : Nat} (low : 1 ≤ id) (high : id ≤ 255) (k : Nat) :
    legIdAfter k (nextLeg id) = legIdAfter (k + 1) id := by
  unfold legIdAfter nextLeg
  split <;> omega

theorem nextLeg_range {id : Nat} (low : 1 ≤ id) (high : id ≤ 255) : 1 ≤ nextLeg id ∧ nextLeg id ≤ 255 := by
  unfold nextLeg; split <;> omega

theorem freshLeg_range (plan : List Leg) (tries : Nat) :
    ∀ {id : Nat}, 1 ≤ id → id ≤ 255 → 1 ≤ freshLeg plan tries id ∧ freshLeg plan tries id ≤ 255 := by
  induction tries with
  | zero => exact fun low high => ⟨low, high⟩
  | succ n ih =>
    intro id low high
    unfold freshLeg
    split
    · exact ih (nextLeg_range low high).1 (nextLeg_range low high).2
    · exact ⟨low, high⟩

theorem holdsLeg_iff (plan : List Leg) (id : Nat) : holdsLeg plan id = true ↔ id ∈ plan.map Leg.id := by
  simp [holdsLeg]

/-- The search finds a free id, or every id it tried is held. -/
theorem freshLeg_found (plan : List Leg) (tries : Nat) : ∀ {id : Nat}, 1 ≤ id → id ≤ 255 →
    freshLeg plan tries id ∉ plan.map Leg.id ∨ ∀ k < tries, legIdAfter k id ∈ plan.map Leg.id := by
  induction tries with
  | zero => exact fun _ _ => .inr fun k hk => absurd hk (Nat.not_lt_zero k)
  | succ n ih =>
    intro id low high
    unfold freshLeg
    split
    · next held =>
      refine (ih (nextLeg_range low high).1 (nextLeg_range low high).2).imp_right fun all k hk => ?_
      cases k with
      | zero => rw [legIdAfter_zero low high]; exact (holdsLeg_iff plan id).1 held
      | succ k => rw [← legIdAfter_nextLeg low high]; exact all k (Nat.lt_of_succ_lt_succ hk)
    · next free => exact .inl fun mem => free ((holdsLeg_iff plan id).2 mem)

/-- Fewer legs than tries leave an id free, since the ids tried differ (R99). -/
theorem freshLeg_not_mem {plan : List Leg} {tries id : Nat} (low : 1 ≤ id) (high : id ≤ 255) (few : plan.length < tries)
    (some255 : tries ≤ 255) : freshLeg plan tries id ∉ plan.map Leg.id := by
  rcases freshLeg_found plan tries low high with free | all
  · exact free
  · exfalso
    have tried : ((List.range tries).map (legIdAfter · id)).Nodup := by
      refine List.pairwise_map.2 (List.nodup_range.imp_of_mem fun {i j} hi hj differ same => differ ?_)
      rw [List.mem_range] at hi hj
      unfold legIdAfter at same
      omega
    have inside : ((List.range tries).map (legIdAfter · id)) ⊆ plan.map Leg.id := by
      intro x hx
      obtain ⟨k, hk, rfl⟩ := List.mem_map.1 hx
      exact all k (List.mem_range.1 hk)
    have := tried.length_le_of_subset inside
    simp only [List.length_map, List.length_range] at this
    omega

/-- A leg appended to a plan with room leaves the plan sound (R99, R100). -/
theorem State.planSound_append {s : State} (h : s.planSound) (room : s.plan.length < Config.maxLegs) (window : Fin 16)
    {steps speed : Nat} (hsteps : 0 < steps ∧ steps ≤ 63) (hspeed : 100 ≤ speed ∧ speed ≤ 1000) :
    (s.withPlan (s.plan ++ [⟨freshLeg s.plan (Config.maxLegs + 1) s.nextLegId, window, steps, 0, speed⟩])
      (nextLeg (freshLeg s.plan (Config.maxLegs + 1) s.nextLegId))).planSound := by
  obtain ⟨legCount, legs, ids, low, high⟩ := h
  have fresh : freshLeg s.plan (Config.maxLegs + 1) s.nextLegId ∉ s.plan.map Leg.id :=
    freshLeg_not_mem low high (by omega) (by decide)
  have range := freshLeg_range s.plan (Config.maxLegs + 1) low high
  refine ⟨?_, ?_, ?_, nextLeg_range range.1 range.2⟩
  · simpa only [State.withPlan, List.length_append, List.length_singleton] using Nat.succ_le_of_lt room
  · intro l hl
    rcases List.mem_append.1 hl with old | new
    · exact legs l old
    · rw [List.mem_singleton.1 new]
      exact ⟨range.1, range.2, hsteps.1, hsteps.2, hspeed.1, hspeed.2⟩
  · simp only [State.withPlan, List.map_append, List.map_cons, List.map_nil]
    exact List.nodup_append.2 ⟨ids, List.pairwise_singleton _ _, fun x hx y hy e =>
      fresh (List.mem_singleton.1 hy ▸ e ▸ hx)⟩

/-! ## Each owner keeps the ranges -/

/-- A swing count below SWING_CPT stays below it at every edge (R7). -/
theorem swingEdge_lt {cpt n : Nat} (h : n < cpt) (e : QuadEdge) : swingEdge cpt n e < cpt := by
  unfold swingEdge
  cases e with
  | up => dsimp only; split <;> omega
  | down => dsimp only; split <;> omega
  | bothChannels => exact h

/-- The lower bound of a setting is no greater than its upper one (12.10). -/
theorem Setting.row_ordered (k : Setting) : k.row.lo ≤ k.row.hi := by
  cases k with
  | accelStep m => show 1 ≤ 1000; decide
  | decelStep m => show 1 ≤ 1000; decide
  | linkPeriod m => show 2 ≤ 20; decide
  | _ => decide

namespace State.Ranged

variable {s : State}

/-! ### Settings, flags and the snapshot -/

/-- Every way the ASU can differ where no position, swing count or tilt does. -/
theorem sameAsu (h : s.Ranged) {u : AxisUnit} (hoist : u.hoist = s.asu.hoist) (drag : u.drag = s.asu.drag)
    (count : u.swing.count = s.asu.swing.count) (index : u.swing.indexCount = s.asu.swing.indexCount)
    (pitch : u.pitch = s.asu.pitch) (roll : u.roll = s.asu.roll) : (s.setAsu u).Ranged :=
  h.setAsu ⟨hoist ▸ h.asu.hoist, drag ▸ h.asu.drag, count ▸ h.asu.count, index ▸ h.asu.indexCount, pitch ▸ h.asu.pitch,
    roll ▸ h.asu.roll⟩

theorem unreferenceRope (h : s.Ranged) (r : Rope) : (s.unreferenceRope r).1.Ranged := h.setRope r (h.rope r)

theorem unreferenceSwing (h : s.Ranged) : s.unreferenceSwing.1.Ranged := h.sameAsu rfl rfl rfl rfl rfl rfl

theorem setSetting_other (h : s.Ranged) {k : Setting} {v : Nat} (hk : k ≠ .swingCpt) (hv : k.row.lo ≤ v ∧ v ≤ k.row.hi) :
    (s.setSetting k v).Ranged :=
  h.setSetting hv (by rw [State.cfg_setSetting, if_neg hk.symm]; exact h.asu)

/-- A new SWING_CPT takes the swing counts below it (R10). -/
theorem writeSwingCpt (h : s.Ranged) {v : Nat} (hv : Setting.swingCpt.row.lo ≤ v ∧ v ≤ Setting.swingCpt.row.hi) :
    ((s.setSetting .swingCpt v).reduceSwing v).Ranged := by
  have cpt : (s.setSetting .swingCpt v).cfg .swingCpt = v := by rw [State.cfg_setSetting, if_pos rfl]
  have positive : 0 < v := Nat.lt_of_lt_of_le (by decide) hv.1
  have reduced : ((s.setSetting .swingCpt v).reduceSwing v).asu.InRange v :=
    ⟨h.asu.hoist, h.asu.drag, Nat.mod_lt _ positive, Nat.mod_lt _ positive, h.asu.pitch, h.asu.roll⟩
  refine ⟨fun j hj => ?_, cpt.symm ▸ reduced, h.3, h.4, h.5⟩
  show j.row.lo ≤ (s.setSetting .swingCpt v).cfg j ∧ (s.setSetting .swingCpt v).cfg j ≤ j.row.hi
  rw [State.cfg_setSetting]
  split
  · next e => exact e ▸ hv
  · exact h.settings j hj

theorem writeSetting (h : s.Ranged) (k : Setting) {v : Nat} (hv : k.row.lo ≤ v ∧ v ≤ k.row.hi) :
    (s.writeSetting k v).1.Ranged := by
  by_cases cpt : k = .swingCpt
  · subst cpt
    exact (h.writeSwingCpt hv).unreferenceSwing
  · have written : (s.setSetting k v).Ranged := h.setSetting_other cpt hv
    unfold State.writeSetting
    dsimp only
    split
    · exact written.sameAsu rfl rfl rfl rfl rfl rfl
    · exact written.unreferenceRope .hoist
    · exact written.unreferenceRope .drag
    · exact absurd rfl cpt
    · exact written.unreferenceSwing
    · exact written.sameAsu rfl rfl rfl rfl rfl rfl
    · exact written

theorem setRequest (h : s.Ranged) (id : Byte) (value : Word16) : (s.setRequest id value).state.Ranged := by
  unfold State.setRequest
  split
  · exact h
  · next k _ =>
    split
    · exact h
    · exact h.writeSetting k (clampNat_range _ k.row_ordered)

theorem takeSnapshot (h : s.Ranged) : s.takeSnapshot.Ranged := (h.setRport _).setFlag _

/-! ### Sensing -/

theorem referenceTaken (h : s.Ranged) (r : Rope) {p : Nat} (hp : p ≤ Config.maxPayout) : (s.referenceTaken r p).Ranged :=
  (h.setRope r ⟨hp, hp⟩).setFlag _

theorem referenceRequest (h : s.Ranged) (axis : Byte) (payout : Word16) : (s.referenceRequest axis payout).state.Ranged := by
  unfold State.referenceRequest
  split
  · exact h
  · split
    · exact h
    · next p hp =>
      have within : p ≤ Config.maxPayout := by
        unfold payoutOf at hp
        split at hp
        · next low => cases hp; exact low
        · cases hp
      split
      · exact h
      · split
        · exact h
        · exact h.referenceTaken _ within

theorem countRope (h : s.Ranged) (r : Rope) (n : Count32) : (s.setRope r { s.rope r with count := n }).Ranged :=
  h.setRope r (h.rope r)

theorem countSwing (h : s.Ranged) (e : QuadEdge) :
    (s.setAsu { s.asu with swing := { s.asu.swing with count := swingEdge (s.cfg .swingCpt) s.asu.swing.count e } }).Ranged :=
  h.setAsu { h.asu with count := swingEdge_lt h.asu.count e }

theorem passSwingIndex (h : s.Ranged) : s.passSwingIndex.1.Ranged := by
  unfold State.passSwingIndex
  dsimp only
  split
  · exact h.setAsu { h.asu with indexCount := h.asu.count }
  · refine State.Ranged.setFlag (h.setAsu ?_) _
    exact { h.asu with indexCount := h.asu.count }

theorem countTooth (h : s.Ranged) (dir : CamDir) : (s.countTooth dir).1.Ranged := h.sameAsu rfl rfl rfl rfl rfl rfl

theorem passCamIndex (h : s.Ranged) (dir : CamDir) : (s.passCamIndex dir).1.Ranged := by
  have passed (teeth : Teeth) : (s.setAsu { s.asu with teeth := teeth, camReferenced := true }).Ranged :=
    h.sameAsu rfl rfl rfl rfl rfl rfl
  unfold State.passCamIndex
  cases dir <;> dsimp only <;> split
  · exact passed _
  · exact (passed _).setFlag _
  · exact passed _
  · exact (passed _).setFlag _

theorem takeTilt (h : s.Ranged) (pitch roll : Int) : (s.takeTilt pitch roll).1.Ranged := by
  have clamped (v : Int) : (clampInt (-Config.maxTilt) Config.maxTilt v).natAbs ≤ 3000 := by
    have := clampInt_range (lo := -Config.maxTilt) (hi := Config.maxTilt) v (by decide)
    simp only [Config.maxTilt] at this ⊢
    omega
  exact h.setAsu { h.asu with pitch := clamped pitch, roll := clamped roll }

theorem tiltByte (h : s.Ranged) (b : Byte) : (s.tiltByte b).1.Ranged := by
  have framed (frame : List Byte) : (s.setAsu { s.asu with tiltFrame := frame }).Ranged := h.sameAsu rfl rfl rfl rfl rfl rfl
  unfold State.tiltByte
  dsimp only
  split
  · exact h
  · split
    · exact framed _
    · split
      · exact (framed []).takeTilt _ _
      · exact framed []

theorem takeTiltBytes (bytes : List Byte) : ∀ {s : State}, s.Ranged → (s.takeTiltBytes bytes).Ranged := by
  induction bytes with
  | nil => exact fun h => h
  | cons b rest ih => exact fun h => ih (settle (h.tiltByte b))

theorem staleExpiry (h : s.Ranged) : s.staleExpiry.1.Ranged := by
  unfold State.staleExpiry
  split
  · exact h.sameAsu rfl rfl rfl rfl rfl rfl
  · exact h

/-! ### Motion requests -/

theorem channel (h : s.Ranged) (a : Axis) : (s.channel a).speedsInRange := h.channels a

/-- A demand is within ±1000 once clamped (R75). -/
theorem demandOf_natAbs (w : Word16) : (demandOf w).natAbs ≤ 1000 := by
  have := clampInt_range (lo := -1000) (hi := 1000) w.toInt (by decide)
  unfold demandOf clampDemand
  omega

theorem takeDemand (h : s.Ranged) (a : Axis) {v : Int} (hv : v.natAbs ≤ 1000) : (s.takeDemand a v).1.Ranged := by
  unfold State.takeDemand
  dsimp only
  split
  · exact h.setChannel a ⟨hv, (h.channel a).2⟩
  · exact h

theorem takeWalkDemand (h : s.Ranged) {v : Int} (hv : v.natAbs ≤ 1000) : (s.takeWalkDemand v).Ranged := by
  unfold State.takeWalkDemand
  dsimp only
  split
  · exact h.setWalk ⟨hv, h.walk.2⟩
  · exact h

theorem demandRequest (h : s.Ranged) (hd dd sd wd : Word16) : (s.demandRequest hd dd sd wd).state.Ranged :=
  (((h.takeDemand .hoist (demandOf_natAbs hd)).takeDemand .drag (demandOf_natAbs dd)).takeDemand .swing
    (demandOf_natAbs sd)).takeWalkDemand (demandOf_natAbs wd)

theorem openTaken (h : s.Ranged) (a : Axis) (mode : Mode) : (s.openTaken a mode).1.Ranged := by
  have opened : (s.openedChannel a mode).speedsInRange := ⟨Nat.zero_le _, (h.channel a).2⟩
  unfold State.openTaken
  dsimp only
  split
  · exact h.setChannel a ⟨opened.1, opened.2.1, Nat.zero_le _⟩
  · exact (Steady.enterOpening _ a).ranged (h.setChannel a opened)

theorem openRequest (h : s.Ranged) (channel mode : Byte) : (s.openRequest channel mode).state.Ranged := by
  unfold State.openRequest
  split
  · split
    · unfold State.openAxis
      split
      · exact h
      · exact h.openTaken _ _
    · unfold State.openWalk
      split
      · exact h
      · split
        · exact h
        · exact (Steady.walkToOpening _ _ _).ranged (h.setWalk ⟨Nat.zero_le _, h.walk.2⟩)
  · exact h

theorem closeAxis (h : s.Ranged) (a : Axis) : (s.closeAxis a).state.Ranged := by
  unfold State.closeAxis
  split
  · exact (Steady.enterClosing s a).ranged h
  · exact (Steady.enterClosing s a).ranged h
  · exact (Steady.enterClosing s a).ranged h
  · exact (Steady.closeTo s a .close).ranged h
  · exact h
  · exact h

theorem closeWalk (h : s.Ranged) : s.closeWalk.state.Ranged := by
  unfold State.closeWalk
  split
  · exact (Steady.haltWalk s _).ranged h
  · exact (Steady.haltWalk s _).ranged h
  · exact (Steady.haltWalk s _).ranged h
  · split
    · exact (Steady.walkToIdle s .close).ranged h
    · exact h
  all_goals exact h

theorem closeRequest (h : s.Ranged) (channel : Byte) : (s.closeRequest channel).state.Ranged := by
  unfold State.closeRequest
  split
  · exact h
  · split
    · exact h.closeAxis _
    · exact h.closeWalk

theorem holdRequest (h : s.Ranged) (flag : Bool) : (s.holdRequest flag).state.Ranged := by
  unfold State.holdRequest
  split
  · exact h
  · exact ⟨h.1, h.2, h.3, h.4, h.5⟩

theorem resumeRequest (h : s.Ranged) : s.resumeRequest.state.Ranged := by
  unfold State.resumeRequest
  split
  · exact h
  · exact h
  · split
    · exact h
    · split
      · exact h.setSup _
      · exact (h.setSup _).setPins _

/-! ### Ports -/

theorem portResetRequest (h : s.Ranged) (m : Motion) : (s.portResetRequest m).state.Ranged := by
  have begun {u : State} (k : Steady s u) : (u.beginResetSequence m).Ranged :=
    (k.trans (.beginResetSequence u m)).ranged h
  unfold State.portResetRequest
  dsimp only
  split
  · exact begun (.changePort s m _ _)
  · exact begun (.changePort s m _ _)
  · split
    · exact begun (.leaveEnabled s m _ _ _)
    · exact h
  · exact h
  · exact h

theorem portDisableRequest (h : s.Ranged) (m : Motion) : (s.portDisableRequest m).state.Ranged := by
  unfold State.portDisableRequest
  split
  · exact (Steady.leaveEnabled s m _ _ []).ranged h
  · exact h

/-- The reference update keeps every speed within range: no permitted value exceeds its demand, and no reference passes both
its old magnitude and the permitted value's (R49, R77, R78). -/
theorem channelUpdate (h : s.Ranged) (a : Axis) : (s.channelUpdate a).1.Ranged := by
  obtain ⟨demand, permitted, reference⟩ := h.channel a
  have allowed : (s.permittedValue a (s.channel a)).natAbs ≤ 1000 := Nat.le_trans (permittedValue_natAbs h.creep_le a _) demand
  unfold State.channelUpdate
  dsimp only
  split
  · exact h
  · exact h
  · exact h
  · exact h.setChannel a ⟨demand, allowed, newReference_natAbs s a _ _ reference allowed⟩
  · exact h.setChannel a ⟨demand, Nat.zero_le _, newReference_natAbs s a _ 0 reference (Nat.zero_le _)⟩
  · exact h.setChannel a ⟨demand, Nat.zero_le _, newReference_natAbs s a _ 0 reference (Nat.zero_le _)⟩

theorem walkUpdate (h : s.Ranged) : s.walkUpdate.1.Ranged := by
  obtain ⟨demand, permitted, reference⟩ := h.walk
  have allowed : s.walkPermitted.natAbs ≤ 1000 :=
    walkPermitted_natAbs demand (Nat.le_trans (h.cfg_le .walkCreep) (by decide)) fun l hl => (h.plan.2.1 l hl).2.2.2.2.2
  have ramped {p : Int} (hp : p.natAbs ≤ 1000) : (s.walkRamp p).natAbs ≤ 1000 :=
    ramp_natAbs (Int.natCast_nonneg _) (Int.natCast_nonneg _) _ _ reference hp
  have moving : (s.setWalk { s.walk with permitted := s.walkPermitted, reference := s.walkRamp s.walkPermitted }).Ranged :=
    h.setWalk ⟨demand, allowed, ramped allowed⟩
  unfold State.walkUpdate
  dsimp only
  split
  · exact h
  · exact h
  · exact h
  · exact moving
  · exact moving
  · exact moving
  · exact h.setWalk ⟨demand, Nat.zero_le _, ramped (p := 0) (Nat.zero_le _)⟩

theorem linkPeriod (h : s.Ranged) (m : Motion) : (s.linkPeriod m).1.Ranged := by
  have sent {u : State} (k : u.Ranged) : (u.updateAndSend m).Ranged := by
    refine (Steady.sendReference _ m _).ranged ?_
    cases m with
    | hoist => exact k.channelUpdate .hoist
    | drag => exact k.channelUpdate .drag
    | swing => exact k.channelUpdate .swing
    | walk => exact k.walkUpdate
  unfold State.linkPeriod
  dsimp only
  split
  · exact h
  · have restarted := (Steady.setPort s m
      { s.ports.get m with linkTimer := some (Timer.start (s.cfg (.linkPeriod m))) }).ranged h
    have counted := (Steady.countMiss _ m).ranged restarted
    split <;> split
    · exact sent counted
    · exact counted
    · exact sent restarted
    · exact restarted

end State.Ranged

end Sys2Proof.Machine

namespace Sys2Proof.Machine

/-- The ASU after reset is within its ranges, with SWING_CPT at its default (R18). -/
theorem AxisUnit.blank_inRange : AxisUnit.blank.InRange 16384 :=
  ⟨⟨by decide, by decide⟩, ⟨by decide, by decide⟩, by decide, by decide, by decide, by decide⟩

namespace State.Ranged

variable {s : State}

/-! ### Banks -/

theorem staging (h : s.Ranged) {owner : Answer} (own : owner.state.Ranged) : (s.staging owner).state.Ranged := by
  unfold State.staging
  split
  · exact h
  · exact own

theorem withStaged (h : s.Ranged) (b : Bank) : (s.withStaged b).Ranged := h.setBanks _

theorem stageWindowRequest (h : s.Ranged) (window marks : Byte) (base mask : Word16) (sector : Byte) :
    (s.stageWindowRequest window marks base mask sector).state.Ranged := by
  unfold State.stageWindowRequest
  split
  · split
    · exact h.withStaged _
    · exact h
  · exact h

theorem stageSectorRequest (h : s.Ranged) (sector ceiling floor : Byte) (dmin dmax hoistCap dragCap swingCap : Word16) :
    (s.stageSectorRequest sector ceiling floor dmin dmax hoistCap dragCap swingCap).state.Ranged := by
  unfold State.stageSectorRequest
  split
  · split
    · exact h.withStaged _
    · exact h
  · exact h

theorem stageLengthRequest (h : s.Ranged) (curve n : Byte) : (s.stageLengthRequest curve n).state.Ranged := by
  unfold State.stageLengthRequest
  split
  · exact h
  · split
    · exact h
    · exact h.withStaged _

theorem stagePointsRequest (h : s.Ranged) (curve first : Byte) (points : List RawPoint) :
    (s.stagePointsRequest curve first points).state.Ranged := by
  unfold State.stagePointsRequest
  split
  · exact h
  · split
    · exact h
    · split
      · exact h
      · exact h.withStaged _

theorem stageBrakeRequest (h : s.Ranged) (curve : Byte) : (s.stageBrakeRequest curve).state.Ranged := by
  unfold State.stageBrakeRequest
  split
  · exact h
  · exact h.withStaged _

theorem commitRequest (h : s.Ranged) : s.commitRequest.state.Ranged := by
  unfold State.commitRequest
  split
  · exact h
  · split <;> exact h.setBanks _

theorem cancelRequest (h : s.Ranged) : s.cancelRequest.state.Ranged := by
  unfold State.cancelRequest
  split
  · exact h
  · exact h.setBanks _

theorem configGetRequest (h : s.Ranged) (bank item index first : Byte) :
    (s.configGetRequest bank item index first).state.Ranged := by
  unfold State.configGetRequest
  split
  · exact h
  · split <;> exact h

theorem sectorAtRequest (h : s.Ranged) (angle : Word16) (bank : Byte) : (s.sectorAtRequest angle bank).state.Ranged := by
  unfold State.sectorAtRequest
  split
  · exact h
  · split <;> exact h

/-! ### The plan and the walk -/

theorem legAppendRequest (h : s.Ranged) (window steps : Byte) (speed : Word16) :
    (s.legAppendRequest window steps speed).state.Ranged := by
  unfold State.legAppendRequest
  split
  · exact h
  · split
    · exact h
    · next counted =>
      split
      · exact h
      · next room =>
        have speeds := clampNat_range (lo := 100) (hi := 1000) speed.toNat (by decide)
        exact h.withPlan (State.planSound_append h.plan (Nat.lt_of_not_le room) _ (by omega) speeds)

theorem legDropRequest (h : s.Ranged) (id : Byte) : (s.legDropRequest id).state.Ranged := by
  unfold State.legDropRequest
  split
  · exact h
  · dsimp only
    split
    · exact h
    · exact h.setPlan List.filter_sublist

theorem planClearRequest (h : s.Ranged) : s.planClearRequest.state.Ranged := by
  unfold State.planClearRequest
  split
  · exact h
  · exact h.setPlan (List.nil_sublist _)

theorem planGetRequest (h : s.Ranged) (first : Byte) : (s.planGetRequest first).state.Ranged := by
  unfold State.planGetRequest
  split <;> exact h

/-- A WALK_START leaves its own state to the deliveries it hands on (R105, R118). -/
theorem walkStartRequest (h : s.Ranged) : s.walkStartRequest.state.Ranged := by
  unfold State.walkStartRequest
  split
  · unfold State.startFromIdle
    split
    · exact h
    · split
      · exact h
      · split <;> exact h
  · unfold State.startRecovery
    split <;> exact h
  all_goals exact h

theorem walkHaltRequest (h : s.Ranged) : s.walkHaltRequest.state.Ranged := by
  have halted := (Steady.haltWalk s .halt).ranged h
  unfold State.walkHaltRequest
  split
  · exact halted
  · exact halted
  · exact halted
  all_goals exact h

/-! ### Alarms -/

theorem onlyTable {t : State} (h : s.Ranged) (k : OnlyTable s t) : t.Ranged :=
  have cfg (x : Setting) : t.cfg x = s.cfg x := State.cfg_congr k.settings x
  ⟨fun x hx => cfg x ▸ h.settings x hx, by rw [cfg, k.asu]; exact h.asu, by rw [k.channels]; exact h.channels,
    by rw [k.walk]; exact h.walk, by unfold State.planSound; rw [k.plan, k.nextLegId]; exact h.plan⟩

theorem defineRequest (h : s.Ranged) (code cls scope p : Byte) (cap : Word16) (polarity : Byte) :
    (s.defineRequest code cls scope p cap polarity).state.Ranged := by
  unfold State.defineRequest
  split
  · exact h
  · split
    · split
      · exact h
      · split
        · exact h
        · exact h.setDef _ _
    · exact h

theorem raiseRequest (h : s.Ranged) (code : Byte) (value : Option Int) : (s.raiseRequest code value).state.Ranged := by
  unfold State.raiseRequest
  split
  · exact h
  · exact h.setDef _ _

theorem clearRequest (h : s.Ranged) (code : Byte) : (s.clearRequest code).state.Ranged := by
  unfold State.clearRequest
  split
  · exact h
  · exact h.setDef _ _

theorem ackRecord (h : s.Ranged) (c : Code) : (s.ackRecord c).Ranged := h.onlyTable (onlyTable_ackRecord s c)

theorem ackRequest (h : s.Ranged) (code : Byte) : (s.ackRequest code).state.Ranged := by
  unfold State.ackRequest
  split
  · exact h
  · split
    · exact h.ackRecord _
    · exact h.ackRecord _
    · exact h
    · exact h

theorem ackEach (codes : List Code) : ∀ {s : State}, s.Ranged → (s.ackEach codes).Ranged := by
  induction codes with
  | nil => exact fun h => h
  | cons c rest ih => exact fun h => ih (h.ackRecord c)

theorem shelveRequest (h : s.Ranged) (code minutes : Byte) : (s.shelveRequest code minutes).state.Ranged := by
  unfold State.shelveRequest
  split
  · exact h
  · split
    · exact h
    · split
      · exact h
      · exact h.setTable _

theorem returnRecord (h : s.Ranged) (c : Code) : (s.returnRecord c).Ranged := State.Ranged.setTable (h.setTable _) _

theorem unshelveRequest (h : s.Ranged) (code : Byte) : (s.unshelveRequest code).state.Ranged := by
  unfold State.unshelveRequest
  split
  · exact h
  · split
    · exact h.returnRecord _
    · exact h

theorem shelveExpiry (h : s.Ranged) (code : Byte) : (s.shelveExpiry code).1.Ranged := by
  unfold State.shelveExpiry
  split
  · exact h
  · split
    · exact (h.returnRecord _).setFlag _
    · exact h

theorem silenceTable (h : s.Ranged) : s.silenceTable.Ranged := (h.setTable _).setPins _

theorem listReply (h : s.Ranged) (codes : List Code) (cursor : Option Code) : (s.listReply codes cursor).state.Ranged :=
  h.setTable _

/-! ### Timers, samples and resets -/

theorem watchdogExpiry (h : s.Ranged) : s.watchdogExpiry.1.Ranged := by
  unfold State.watchdogExpiry
  split
  · exact h.setSup _
  · exact h

theorem beginArrival (h : s.Ranged) (a : Axis) (faultLine : Bool) : (s.beginArrival a faultLine).Ranged :=
  ⟨h.1, ⟨h.asu.hoist, h.asu.drag, h.asu.count, h.asu.indexCount, h.asu.pitch, h.asu.roll⟩, h.3, h.4, h.5⟩

theorem sampleInputs (h : s.Ranged) (levels : Byte) : (s.sampleInputs levels).1.Ranged := ⟨h.1, h.2, h.3, h.4, h.5⟩

/-- A state whose settings, channels, walk and plan are those after reset and whose ASU is within its ranges. -/
theorem ofReset {t : State} (settings : t.settings = defaultSettings)
    (asu : t.asu.InRange 16384) (channels : ∀ a, t.channels.get a = Channel.blank)
    (walk : t.walk = WalkChannel.blank) (plan : t.plan = []) (next : t.nextLegId = 1) : t.Ranged := by
  have cfg (k : Setting) : t.cfg k = State.reset.cfg k := State.cfg_congr settings k
  have defaults : ∀ k ∈ Setting.all, k.row.lo ≤ State.reset.cfg k ∧ State.reset.cfg k ≤ k.row.hi := by decide +kernel
  refine ⟨fun k hk => cfg k ▸ defaults k hk, ?_, fun a => ?_, ?_, ?_⟩
  · rw [cfg]; exact asu
  · rw [channels a]; exact ⟨by decide, by decide, by decide⟩
  · rw [walk]; exact ⟨by decide, by decide, by decide⟩
  · unfold State.planSound
    rw [plan, next]
    exact ⟨by decide, by simp, by decide, by decide, by decide⟩

theorem beginReset (s : State) (cause : ResetCause) : (s.beginReset cause).Ranged :=
  ofReset rfl { AxisUnit.blank_inRange with } (fun a => by cases a <;> rfl) rfl rfl rfl

theorem endReset (s : State) (cause : ResetCause) (lines : ResetLines) : (s.endReset cause lines).Ranged :=
  ofReset rfl { AxisUnit.blank_inRange with } (fun a => by cases a <;> rfl) rfl rfl rfl

theorem tryEndReset (h : s.Ranged) (resetN : Bool) (lines : ResetLines) : (s.tryEndReset resetN lines).Ranged := by
  unfold State.tryEndReset
  split
  · split
    · exact endReset s _ _
    · exact h
  · exact h

theorem tick (h : s.Ranged) : s.tick.Ranged := by
  unfold State.tick
  split
  · exact h
  · exact ⟨h.1, ⟨h.asu.hoist, h.asu.drag, h.asu.count, h.asu.indexCount, h.asu.pitch, h.asu.roll⟩,
      fun a => match a with
        | .hoist => h.3 .hoist
        | .drag => h.3 .drag
        | .swing => h.3 .swing, h.4, h.5⟩

end State.Ranged

/-! ## Every command and every step -/

/-- Whatever state a command leads to has a property. -/
def Leads (P : State → Prop) (o : Host.Outcome State Fault Refusal) : Prop := ∀ t, o = .next t → P t

theorem Leads.next {P : State → Prop} {t : State} (h : P t) : Leads P (.next t) := fun _ e => by cases e; exact h

theorem exec_ranged {s : State} (h : s.Ranged) (i : Instr) : Leads State.Ranged (exec i s) := by
  cases i with
  | nop x => exact .next (h.request x _ _ fun _ k => k)
  | status x => exact .next (h.request x _ _ fun _ k => k)
  | reset r =>
    refine .next ?_
    split
    · exact h.setRport _
    · split
      · exact (State.Ranged.beginReset _ _).tryEndReset _ _
      · exact h.receiveFrame.respond _
  | set x id value => exact .next (h.request x _ _ fun _ k => k.setRequest id value)
  | get x id =>
    refine .next (h.request x _ _ fun u k => ?_)
    unfold State.getRequest
    split <;> exact k
  | eventsAck x flags => exact .next (h.request x _ _ fun _ k => k.setFlagWords _ _)
  | eventsMask x flags => exact .next (h.request x _ _ fun _ k => k.setFlagWords _ _)
  | snapshot x => exact .next (h.request x _ _ fun _ k => k.takeSnapshot)
  | snapshotRead x part => exact .next (h.request x _ _ fun _ k => by split <;> exact k)
  | demand x hd dd sd wd => exact .next (h.request x _ _ fun _ k => k.demandRequest hd dd sd wd)
  | openChannel x channel mode => exact .next (h.request x _ _ fun _ k => k.openRequest channel mode)
  | closeChannel x channel => exact .next (h.request x _ _ fun _ k => k.closeRequest channel)
  | holdAll x => exact .next (h.request x _ _ fun _ k => k.holdRequest true)
  | releaseAll x => exact .next (h.request x _ _ fun _ k => k.holdRequest false)
  | reference x axis payout => exact .next (h.request x _ _ fun _ k => k.referenceRequest axis payout)
  | resume x => exact .next (h.request x _ _ fun _ k => k.resumeRequest)
  | portReset x port =>
    refine .next (h.request x _ _ fun _ k => ?_)
    split
    · exact k.portResetRequest _
    · exact k
  | portDisable x port =>
    refine .next (h.request x _ _ fun _ k => ?_)
    split
    · exact k.portDisableRequest _
    · exact k
  | portGet x port => exact .next (h.request x _ _ fun _ k => by split <;> exact k)
  | stageWindow x window marks base mask sector =>
    exact .next (h.request x _ _ fun _ k => k.staging (k.stageWindowRequest window marks base mask sector))
  | stageSector x sector ceiling floor dmin dmax hoistCap dragCap swingCap =>
    exact .next (h.request x _ _ fun _ k =>
      k.staging (k.stageSectorRequest sector ceiling floor dmin dmax hoistCap dragCap swingCap))
  | stageCurveLength x curve n => exact .next (h.request x _ _ fun _ k => k.staging (k.stageLengthRequest curve n))
  | stageCurvePoints x curve first points =>
    exact .next (h.request x _ _ fun _ k => k.staging (k.stagePointsRequest curve first _))
  | stageBrakeCurve x curve => exact .next (h.request x _ _ fun _ k => k.staging (k.stageBrakeRequest curve))
  | stageClear x => exact .next (h.request x _ _ fun _ k => k.staging (k.withStaged _))
  | stageCopy x => exact .next (h.request x _ _ fun _ k => k.staging (k.withStaged _))
  | commit x => exact .next (h.request x _ _ fun _ k => k.commitRequest)
  | commitCancel x => exact .next (h.request x _ _ fun _ k => k.cancelRequest)
  | configGet x bank item index first =>
    exact .next (h.request x _ _ fun _ k => k.configGetRequest bank item index first)
  | sectorAt x angle bank => exact .next (h.request x _ _ fun _ k => k.sectorAtRequest angle bank)
  | legAppend x window steps speed => exact .next (h.request x _ _ fun _ k => k.legAppendRequest window steps speed)
  | legDrop x id => exact .next (h.request x _ _ fun _ k => k.legDropRequest id)
  | planClear x => exact .next (h.request x _ _ fun _ k => k.planClearRequest)
  | planGet x first => exact .next (h.request x _ _ fun _ k => k.planGetRequest first)
  | walkStart x => exact .next (h.request x _ _ fun _ k => k.walkStartRequest)
  | walkHalt x => exact .next (h.request x _ _ fun _ k => k.walkHaltRequest)
  | define x code cls scope persistence cap polarity =>
    exact .next (h.request x _ _ fun _ k => k.defineRequest code cls scope persistence cap polarity)
  | definitionGet x code => exact .next (h.request x _ _ fun _ k => by split <;> exact k)
  | raise x code value => exact .next (h.request x _ _ fun _ k => k.raiseRequest code _)
  | clear x code => exact .next (h.request x _ _ fun _ k => k.clearRequest code)
  | ack x code => exact .next (h.request x _ _ fun _ k => k.ackRequest code)
  | ackAll x => exact .next (h.request x _ _ fun _ k => State.Ranged.ackEach _ k)
  | shelve x code minutes => exact .next (h.request x _ _ fun _ k => k.shelveRequest code minutes)
  | unshelve x code => exact .next (h.request x _ _ fun _ k => k.unshelveRequest code)
  | silence x => exact .next (h.request x _ _ fun _ k => k.silenceTable)
  | alarmListFirst x => exact .next (h.request x _ _ fun _ k => k.listReply _ _)
  | alarmListNext x => exact .next (h.request x _ _ fun _ k => by split <;> exact k.listReply _ _)
  | alarmGet x code => exact .next (h.request x _ _ fun _ k => by split <;> exact k)
  | frameError reason tag code =>
    refine .next ?_
    split
    · exact h.setRport _
    · exact (h.setRport _).respond _
  | unknownRequest tag code =>
    refine .next ?_
    split
    · exact h.setRport _
    · exact h.receiveFrame.respond _
  | selectFall gap => exact .next (h.setRport _)
  | powerOn => exact .next (.beginReset s _)
  | resetNLow micros =>
    refine .next ?_
    split
    · exact h
    · exact .beginReset s _
  | resetEnd resetN lines => exact .next (h.tryEndReset resetN lines)
  | axisSampleArrival axis faultLine => exact .next (h.event (h.beginArrival axis faultLine))
  | ropeEncoderEdge rope edge => exact .next (h.event (h.countRope rope _))
  | swingEncoderEdge edge => exact .next (h.event (h.countSwing edge))
  | swingIndexMark => exact .next (h.event h.passSwingIndex)
  | camToothEdge dir pulse =>
    refine .next (h.event ?_)
    split
    · exact h.countTooth dir
    · exact h
  | camIndexPassage dir pulse =>
    refine .next (h.event ?_)
    split
    · exact h.passCamIndex dir
    · exact h
  | inclinometerFrame bytes =>
    refine .next ?_
    split
    · exact h
    · exact State.Ranged.takeTiltBytes bytes h
  | inclinometerFrameGap gap =>
    refine .next (h.event ?_)
    split
    · exact h.sameAsu rfl rfl rfl rfl rfl rfl
    · exact h
  | stalenessTimerExpiry => exact .next (h.event h.staleExpiry)
  | externalInputSample levels => exact .next (h.event (h.sampleInputs levels))
  | presenceChange port active held =>
    refine .next (h.event ?_)
    split
    · exact (Steady.presenceTaken s port active).ranged h
    · exact h
  | resetSequenceTick port => exact .next (h.event ((Steady.resetTick s port).ranged h))
  | linkPeriodEvent port => exact .next (h.event (h.linkPeriod port))
  | driveStatusFrame port bytes => exact .next (h.event ((Steady.receiveStatus s port bytes).ranged h))
  | openTimerExpiry axis => exact .next (h.event ((Steady.openExpiry s axis).ranged h))
  | walkOpenTimerExpiry => exact .next (h.event ((Steady.walkOpenExpiry s).ranged h))
  | restTimerExpiry channel => exact .next (h.event ((Steady.anyRestExpiry s channel).ranged h))
  | demandTimerExpiry axis => exact .next (h.event ((Steady.demandExpiry s axis).ranged h))
  | walkDemandTimerExpiry => exact .next (h.event ((Steady.walkDemandExpiry s).ranged h))
  | brakeWatchTimerExpiry port => exact .next (h.event ((Steady.watchExpiry s port).ranged h))
  | commitTimerExpiry => exact .next (h.event ((Steady.commitExpiry s).ranged h))
  | shelveTimerExpiry code => exact .next (h.event (h.shelveExpiry code))
  | linkWatchdogExpiry => exact .next (h.event h.watchdogExpiry)

/-- What a millisecond and every command keep, every step keeps. -/
theorem step_leads {P : State → Prop} {s : State} (tick : P s.tick)
    (unqueued : ∀ rest, P { s with pending := rest }) (command : ∀ {u : State} (i : Instr), P u → Leads P (exec i u)) :
    Leads P (step s) := by
  unfold step
  split
  · exact .next tick
  · next i rest _ => exact command i (unqueued rest)

end Sys2Proof.Machine

section
open Sys2Proof Sys2Proof.Machine

/-- Settles O57: the ranges are kept by every command and by a passing millisecond, whatever else a sound state promises. -/
theorem everyStepKeepsTheRanges : Obligations.EveryStepKeepsTheRanges := by
  unfold Obligations.EveryStepKeepsTheRanges
  intro s t sound leads
  have ranged : s.Ranged := sound.ranged
  exact t.ranged_iff.1 (step_leads ranged.tick ranged.setPending (fun i k => exec_ranged k i) t leads)

end

namespace Sys2Proof.Machine

/-! ## The expiries of a millisecond -/

theorem Axis.exists_iff {p : Axis → Prop} : (∃ a, p a) ↔ p .hoist ∨ p .drag ∨ p .swing := by
  constructor
  · rintro ⟨a, h⟩
    cases a with
    | hoist => exact .inl h
    | drag => exact .inr (.inl h)
    | swing => exact .inr (.inr h)
  · rintro (h | h | h) <;> exact ⟨_, h⟩

theorem Motion.exists_iff {p : Motion → Prop} : (∃ m, p m) ↔ p .hoist ∨ p .drag ∨ p .swing ∨ p .walk := by
  constructor
  · rintro ⟨m, h⟩
    cases m with
    | hoist => exact .inl h
    | drag => exact .inr (.inl h)
    | swing => exact .inr (.inr (.inl h))
    | walk => exact .inr (.inr (.inr h))
  · rintro (h | h | h | h) <;> exact ⟨_, h⟩

theorem Axis.motion_inj {a b : Axis} : a.motion = b.motion ↔ a = b := by
  cases a <;> cases b <;> decide

theorem Axis.motion_ne_walk (a : Axis) : a.motion ≠ .walk := by
  cases a <;> decide

theorem Axis.walk_ne_motion (a : Axis) : Motion.walk ≠ a.motion := (Axis.motion_ne_walk a).symm

/-- A running timer has one millisecond left. -/
def RunsOut (x : Option Timer) : Prop := ∃ y, x = some y ∧ y.left = 1

theorem mem_expiries {x : Option Timer} {i j : Instr} : j ∈ expiries x i ↔ RunsOut x ∧ j = i := by
  unfold expiries RunsOut
  cases x with
  | none => simp
  | some y => by_cases h : y.left = 1 <;> simp [h]

theorem State.mem_portExpiries (s : State) (m : Motion) (i : Instr) :
    i ∈ s.portExpiries m ↔
      (RunsOut (s.ports.get m).linkTimer ∧ (s.ports.get m).state = .resetting ∧ i = .resetSequenceTick m) ∨
      (RunsOut (s.ports.get m).linkTimer ∧ (s.ports.get m).state ≠ .resetting ∧ i = .linkPeriodEvent m) ∨
      (RunsOut (s.ports.get m).watch.timer ∧ i = .brakeWatchTimerExpiry m) := by
  unfold State.portExpiries
  rw [List.mem_append, mem_expiries, mem_expiries]
  by_cases resetting : (s.ports.get m).state = .resetting
  · simp [resetting]
  · simp [resetting]

/-- An axis named by an expiry is the one whose timer ran out. -/
theorem Axis.exists_and_eq {p q : Axis → Prop} {a : Axis} : (∃ b, p b ∧ a = b ∧ q b) ↔ p a ∧ q a :=
  ⟨fun ⟨_, h, same, k⟩ => same ▸ ⟨h, k⟩, fun ⟨h, k⟩ => ⟨a, h, rfl, k⟩⟩

/-- What comes on the queue in a millisecond, block by block in the order of the queue. -/
theorem State.mem_allExpiries (s : State) (i : Instr) :
    i ∈ s.allExpiries ↔
      (∃ a, RunsOut (s.asu.sampleTimers.get a) ∧ i = .axisSampleArrival a (s.lines.fault.get a)) ∨
      (RunsOut s.inputTimer ∧ i = .externalInputSample s.lines.inputs) ∨
      (RunsOut s.asu.staleTimer ∧ i = .stalenessTimerExpiry) ∨
      (∃ m, (RunsOut (s.ports.get m).linkTimer ∧ (s.ports.get m).state = .resetting ∧ i = .resetSequenceTick m) ∨
        (RunsOut (s.ports.get m).linkTimer ∧ (s.ports.get m).state ≠ .resetting ∧ i = .linkPeriodEvent m) ∨
        (RunsOut (s.ports.get m).watch.timer ∧ i = .brakeWatchTimerExpiry m)) ∨
      (∃ a, (RunsOut (s.channels.get a).openTimer ∧ i = .openTimerExpiry a) ∨
        (RunsOut (s.channels.get a).restTimer ∧ i = .restTimerExpiry a.motion) ∨
        (RunsOut (s.channels.get a).demandTimer ∧ i = .demandTimerExpiry a)) ∨
      (RunsOut s.walk.openTimer ∧ i = .walkOpenTimerExpiry) ∨
      (RunsOut s.walk.restTimer ∧ i = .restTimerExpiry .walk) ∨
      (RunsOut s.walk.demandTimer ∧ i = .walkDemandTimerExpiry) ∨
      (RunsOut (s.banks.commit.map PendingCommit.timer) ∧ i = .commitTimerExpiry) ∨
      (∃ r ∈ s.table.records, RunsOut r.shelve ∧ i = .shelveTimerExpiry (BitVec.ofNat 8 r.code.num)) ∨
      (RunsOut s.sup.watchdog ∧ i = .linkWatchdogExpiry) := by
  simp only [State.allExpiries, State.sampleExpiry, State.mem_portExpiries, State.channelExpiries, State.walkExpiries,
    AlarmRecord.expiry, List.mem_append, List.mem_flatMap, mem_expiries, Axis.exists_iff, Motion.exists_iff, or_assoc]

theorem runsOut_commit {c : Option PendingCommit} :
    RunsOut (c.map PendingCommit.timer) ↔ ∃ p, c = some p ∧ p.timer.left = 1 := by
  cases c <;> simp [RunsOut]

theorem State.tick_pending {s : State} (h : s.inReset = false) : s.tick.pending = s.allExpiries := by
  unfold State.tick
  rw [if_neg (by simp [h])]

end Sys2Proof.Machine

section
open Sys2Proof Sys2Proof.Machine

/-- Settles O2, by the state a millisecond leaves and by what `mem_allExpiries` says of the queue. -/
theorem idleStepPassesAMillisecond : Obligations.IdleStepPassesAMillisecond := by
  unfold Obligations.IdleStepPassesAMillisecond
  intro s empty
  refine ⟨s.tick, by unfold step; rw [empty], fun reset => by unfold State.tick; rw [if_pos reset], fun live => ?_⟩
  intro less out
  have ran (x : Option Timer) : out x ↔ RunsOut x := Iff.rfl
  have queued (i : Instr) := State.tick_pending live ▸ s.mem_allExpiries i
  have passed : s.tick = _ := if_neg (by simp [live])
  refine ⟨by rw [passed]; rfl, by rw [passed]; rfl, fun a => by rw [passed]; cases a <;> rfl, by rw [passed]; rfl,
    fun a => by rw [passed]; cases a <;> rfl, by rw [passed]; rfl, fun m => by rw [passed]; cases m <;> rfl,
    by rw [passed]; rfl, fun a line => by simp [queued, ran, Axis.exists_and_eq], fun levels => by simp [queued, ran], by simp [queued, ran],
    by simp [queued, ran], fun a => ⟨by simp [queued, ran], by simp [queued, ran],
      by simp [queued, ran, Axis.motion_inj, Axis.motion_ne_walk]⟩, by simp [queued, ran], by simp [queued, ran],
    by simp [queued, ran, Axis.walk_ne_motion], fun m => ⟨by simp [queued, ran], by simp [queued, ran],
      by simp [queued, ran]⟩, by simp [queued, runsOut_commit], fun code => by simp [queued, ran], fun i hi => ?_⟩
  rcases (queued i).1 hi with ⟨_, _, rfl⟩ | ⟨_, rfl⟩ | ⟨_, rfl⟩ | ⟨_, ⟨_, _, rfl⟩ | ⟨_, _, rfl⟩ | ⟨_, rfl⟩⟩ |
    ⟨_, ⟨_, rfl⟩ | ⟨_, rfl⟩ | ⟨_, rfl⟩⟩ | ⟨_, rfl⟩ | ⟨_, rfl⟩ | ⟨_, rfl⟩ | ⟨_, rfl⟩ | ⟨_, _, _, rfl⟩ | ⟨_, rfl⟩ <;> simp

end

namespace Sys2Proof.Machine

/-! ## Deliveries that cannot reach the ASU -/

/-- A delivery from which neither the ASU is reached nor any delivery that reaches it. -/
def Act.sparesAsu : Act → Bool
  | .sample (.encoderFault _) _ _ => false
  | act => !act.movesAsu

/-- Every delivery of a list spares the ASU. -/
def sparing (acts : List Act) : Bool := acts.all Act.sparesAsu

@[simp] theorem sparing_nil : sparing [] = true := rfl

@[simp] theorem sparing_cons (act : Act) (rest : List Act) : sparing (act :: rest) = (act.sparesAsu && sparing rest) := rfl

@[simp] theorem sparing_append (first more : List Act) : sparing (first ++ more) = (sparing first && sparing more) :=
  List.all_append

theorem Act.movesAsu_of_sparesAsu {act : Act} (h : act.sparesAsu = true) : act.movesAsu = false := by
  cases act with
  | faultState a => exact nomatch h
  | formPosition a => exact nomatch h
  | _ => rfl

theorem sparing_lookParked (s : State) (a : Axis) : sparing (s.lookParked a).2 = true := by
  unfold State.lookParked
  dsimp only
  split
  · rfl
  · split
    · rfl
    · split <;> rfl

theorem sparing_reform (s : State) (a : Axis) : sparing (s.reform a).2 = true := by
  unfold State.reform
  dsimp only
  split
  · split <;> rfl
  · split <;> rfl
  · split
    · rfl
    · exact sparing_lookParked _ a
  all_goals rfl

theorem sparing_tripAt (s : State) (a : Axis) : sparing (s.tripAt a).2 = true := by
  unfold State.tripAt
  split <;> rfl

theorem sparing_portLostAt (s : State) (a : Axis) : sparing (s.portLostAt a).2 = true := by
  unfold State.portLostAt
  split <;> rfl

theorem sparing_replyAt (s : State) (a : Axis) (d : DriveStatus) : sparing (s.replyAt a d).2 = true := by
  unfold State.replyAt
  dsimp only
  split
  · split <;> rfl
  · split
    · rfl
    · split <;> rfl
  · split
    · rfl
    · split <;> rfl
  all_goals rfl

theorem sparing_haltWalk (s : State) (cause : HaltCause) : sparing (s.haltWalk cause).2 = true := by
  unfold State.haltWalk
  split
  · unfold State.haltOpening
    split <;> rfl
  · unfold State.haltStepping
    split
    · rfl
    · split <;> rfl
  all_goals rfl

theorem sparing_reformHalts (s : State) : sparing s.reformHalts.2 = true := by
  unfold State.reformHalts
  dsimp only
  split
  · exact sparing_haltWalk _ _
  · rfl

theorem sparing_tripAtWalk (s : State) : sparing s.tripAtWalk.2 = true := by
  unfold State.tripAtWalk
  dsimp only
  split
  case h_6 => split <;> rfl
  case h_7 =>
    split
    · split <;> rfl
    all_goals rfl
  all_goals rfl

theorem sparing_portLostAtWalk (s : State) : sparing s.portLostAtWalk.2 = true := by
  unfold State.portLostAtWalk
  split <;> rfl

theorem sparing_walkConfirmed (s : State) : sparing s.walkConfirmed.2 = true := by
  unfold State.walkConfirmed
  dsimp only
  split
  · split <;> rfl
  · split
    · dsimp only; split <;> rfl
    · rfl
  · split
    · split <;> rfl
    · rfl
  all_goals rfl

theorem sparing_replyAtWalk (s : State) (d : DriveStatus) : sparing (s.replyAtWalk d).2 = true := by
  unfold State.replyAtWalk
  dsimp only
  split
  · split
    · exact sparing_walkConfirmed s
    · rfl
  · split
    · rfl
    · split
      · unfold State.walkClosed
        split
        · split <;> rfl
        all_goals rfl
      · rfl
  all_goals rfl

theorem sparing_countStep (s : State) (dir : CamDir) : sparing (s.countStep dir).2 = true := by
  unfold State.countStep
  split
  · split
    · split <;> rfl
    · rfl
  · rfl

theorem sparing_arriveAtPark (s : State) (dir : CamDir) : sparing (s.arriveAtPark dir).2 = true := by
  have counted := sparing_countStep s dir
  unfold State.arriveAtPark
  split
  · simpa using ⟨counted, rfl⟩
  · split
    · simpa using ⟨counted, rfl⟩
    · rfl
  all_goals rfl

theorem sparing_decideAtPark (s : State) (dir : CamDir) : sparing (s.decideAtPark dir).2 = true := by
  unfold State.decideAtPark
  split
  · rfl
  · split
    · rfl
    · split
      · rfl
      · split
        · rfl
        · split <;> rfl

theorem sparing_takeSample (s : State) {c : Code} {raw : Bool} {value : Option Int}
    (h : (Act.sample c raw value).sparesAsu = true) : sparing (s.takeSample c raw value).2 = true := by
  unfold State.takeSample State.raiseCode State.clearCode
  dsimp only
  split
  · rfl
  · split
    · cases c with
      | encoderFault a => exact nomatch h
      | _ => split <;> rfl
    · rfl

theorem sparing_endHalt (s : State) : sparing s.endHalt.2 = true := by
  unfold State.endHalt
  split <;> rfl

theorem sparing_receiveAtSupervisor (s : State) : sparing s.receiveAtSupervisor.2 = true := by
  unfold State.receiveAtSupervisor
  dsimp only
  split <;> rfl

theorem sparing_envelopeActs (s : State) : sparing s.envelopeActs = true := by
  unfold State.envelopeActs
  split <;> rfl

/-- What spares the ASU hands on nothing that reaches it. -/
theorem sparing_perform {act : Act} (h : act.sparesAsu = true) (s : State) : sparing (perform act s).2 = true := by
  cases act with
  | sample c raw v => exact sparing_takeSample s h
  | maintSample => exact sparing_takeSample s rfl
  | faultState a => exact nomatch h
  | receiveChannel a => exact sparing_reform _ a
  | receiveWalk => exact sparing_reformHalts _
  | receiveSupervisor => exact sparing_receiveAtSupervisor s
  | reformChannel a => exact sparing_reform s a
  | reformWalk => exact sparing_reformHalts s
  | parkedLook a => exact sparing_lookParked s a
  | tripChannel a => exact sparing_tripAt s a
  | tripWalk => exact sparing_tripAtWalk s
  | portLost m =>
    cases m with
    | hoist => exact sparing_portLostAt s .hoist
    | drag => exact sparing_portLostAt s .drag
    | swing => exact sparing_portLostAt s .swing
    | walk => exact sparing_portLostAtWalk s
  | reply m d =>
    cases m with
    | hoist => exact sparing_replyAt s .hoist d
    | drag => exact sparing_replyAt s .drag d
    | swing => exact sparing_replyAt s .swing d
    | walk => exact sparing_replyAtWalk s d
  | formPosition a => exact nomatch h
  | envelopeSample => exact sparing_envelopeActs s
  | parkArrival dir => exact sparing_arriveAtPark s dir
  | parkDecide dir => exact sparing_decideAtPark s dir
  | haltClose => exact sparing_endHalt s
  | _ => rfl

/-- An event whose deliveries spare the ASU leaves it as its own rule left it. -/
theorem settle_steady {s : State} {acts : List Act} (h : sparing acts = true) : Steady s (settle (s, acts)) := by
  have go : ∀ n more u, sparing more = true → Steady s u → Steady s (run n more u) := by
    intro n
    induction n with
    | zero => exact fun _ _ _ k => k
    | succ n ih =>
      intro more u spared k
      cases more with
      | nil => exact k
      | cons act rest =>
        rw [sparing_cons, Bool.and_eq_true] at spared
        obtain ⟨first, others⟩ := spared
        rw [run_cons]
        exact ih _ _ (by rw [sparing_append, sparing_perform first, others]; rfl)
          (k.trans (.perform (Act.movesAsu_of_sparesAsu first) u))
  exact go Config.cascadeFuel acts s h (.refl s)

/-! ## Requests taken -/

/-- A taken request of the one allowed length is answered by its owner (R188). -/
theorem State.request_ofLength {s : State} {x : Header} {n : Nat} (h : s.takesFrame x n) (code : Byte)
    (owner : State → Answer) : s.request x code (lengthIs x n) owner = State.finish (owner s.receiveFrame) x.tag code := by
  rw [show lengthIs x n = true from beq_iff_eq.2 h.2, State.request_taken h.1]

/-- A frame received leaves the settings (R182). -/
theorem State.receiveFrame_settings (s : State) : s.receiveFrame.settings = s.settings :=
  (settle_undisturbed s.selectRise.restartWatchdog).settings

theorem State.receiveFrame_cfg (s : State) (k : Setting) : s.receiveFrame.cfg k = s.cfg k :=
  State.cfg_congr s.receiveFrame_settings k

end Sys2Proof.Machine

namespace Sys2Proof.Machine

/-! ## SET (R195) -/

/-- The settings whose write takes an axis's reference away (R6, R10, R17). -/
def Setting.unreferences (k : Setting) : Prop := k = .hoistScale ∨ k = .dragScale ∨ k = .swingCpt ∨ k = .swingIndexAngle

/-- A write is refused exactly where the channel of a scale, SWING_CPT or SWING_INDEX_ANGLE is not CLOSED (R17). -/
theorem State.setRefused_eq_false_iff (s : State) (k : Setting) :
    s.setRefused k = false ↔
      (k = .hoistScale → s.channels.hoist.state = .closed) ∧ (k = .dragScale → s.channels.drag.state = .closed) ∧
        (k = .swingCpt ∨ k = .swingIndexAngle → s.channels.swing.state = .closed) := by
  cases k <;> simp [State.setRefused, Setting.guardedBy, State.channelClosed]

/-- The owner's write leaves every block but the settings and the ASU, and every other setting (R195). -/
theorem State.writeSetting_frame (s : State) (k : Setting) (v : Nat) :
    let u := (s.writeSetting k v).1
    u = { s with settings := u.settings, asu := u.asu } ∧ u.settings = (s.setSetting k v).settings := by
  unfold State.writeSetting
  dsimp only
  split <;> exact ⟨rfl, rfl⟩

theorem State.writeSetting_cfg (s : State) (k j : Setting) (v : Nat) :
    (s.writeSetting k v).1.cfg j = if j = k then v else s.cfg j := by
  rw [← State.cfg_setSetting]
  exact State.cfg_congr (s.writeSetting_frame k v).2 j

/-- A write hands on what a lost reference hands on, and nothing else (R6, R10, R80). -/
theorem State.writeSetting_acts (s : State) (k : Setting) (v : Nat) :
    (k.unreferences → (s.writeSetting k v).2 = reformAll) ∧ (¬k.unreferences → (s.writeSetting k v).2 = []) := by
  unfold State.writeSetting Setting.unreferences
  cases k <;> simp [State.unreferenceRope, State.unreferenceSwing]

/-- What a write does to the ASU (R1, R6, R10, R11). -/
theorem State.writeSetting_asu (s : State) (k : Setting) (v : Nat) :
    let asu := (s.writeSetting k v).1.asu
    (k = .hoistScale → asu = { s.asu with hoist := { s.asu.hoist with referenced := false } }) ∧
    (k = .dragScale → asu = { s.asu with drag := { s.asu.drag with referenced := false } }) ∧
    (k = .swingIndexAngle → asu = { s.asu with swing := { s.asu.swing with referenced := false } }) ∧
    (k = .swingCpt → asu = { s.asu with swing := { s.asu.swing with
      count := s.asu.swing.count % v, indexCount := s.asu.swing.indexCount % v, referenced := false } }) ∧
    (k = .axisPeriod → asu = { s.asu with sampleTimers := ⟨some ⟨v, v⟩, some ⟨v, v⟩, some ⟨v, v⟩⟩ }) ∧
    (k = .camFilter → asu = { s.asu with oldFilters := s.cfg .camFilter :: s.asu.oldFilters }) ∧
    (¬k.unreferences → k ≠ .axisPeriod → k ≠ .camFilter → asu = s.asu) := by
  refine ⟨?_, ?_, ?_, ?_, ?_, ?_, fun kept period filter => ?_⟩
  iterate 6 rintro rfl; rfl
  unfold Setting.unreferences at kept
  unfold State.writeSetting
  cases k <;> first | rfl | simp_all

theorem State.writeSetting_sparing (s : State) (k : Setting) (v : Nat) : sparing (s.writeSetting k v).2 = true := by
  by_cases h : k.unreferences
  · rw [(s.writeSetting_acts k v).1 h]; rfl
  · rw [(s.writeSetting_acts k v).2 h]; rfl

/-! ### By its checks -/

theorem State.setRequest_unknown {id : Byte} (h : Setting.ofId id.toNat = none) (s : State) (value : Word16) :
    s.setRequest id value = refuse s .noSuch := by
  unfold State.setRequest
  rw [h]

theorem State.setRequest_refused {id : Byte} {k : Setting} (h : Setting.ofId id.toNat = some k) {s : State}
    (refused : s.setRefused k = true) (value : Word16) : s.setRequest id value = refuse s .state := by
  unfold State.setRequest
  rw [h]
  exact if_pos refused

theorem State.setRequest_taken {id : Byte} {k : Setting} (h : Setting.ofId id.toNat = some k) {s : State}
    (taken : s.setRefused k = false) (value : Word16) :
    let v := clampNat k.row.lo k.row.hi value.toNat
    s.setRequest id value = ⟨(s.writeSetting k v).1, (s.writeSetting k v).2, if v = value.toNat then .ok else .okClamped,
      [id] ++ nat16 v⟩ := by
  intro v
  have status : okOr (v != value.toNat) = if v = value.toNat then .ok else .okClamped := by
    by_cases same : v = value.toNat <;> simp [okOr, same]
  unfold State.setRequest
  rw [h, ← status]
  exact if_neg (by simp [taken])

end Sys2Proof.Machine

section
open Sys2Proof Sys2Proof.Machine

/-- Settles O13, from what the owner's write does (`writeSetting_frame`, `writeSetting_asu`, `writeSetting_acts`) and from
deliveries that spare the ASU. -/
theorem setWritesThatSettingAlone : Obligations.SetWritesThatSettingAlone := by
  unfold Obligations.SetWritesThatSettingAlone
  intro s h id value frame r
  have run : exec (.set h id value) s = .next (State.finish (r.setRequest id value) h.tag 0x04#8) :=
    congrArg Host.Outcome.next (State.request_ofLength frame _ _)
  refine ⟨fun unknown => ?_, ?_⟩
  · rw [run, State.setRequest_unknown unknown]
    exact congrArg Host.Outcome.next (finish_nothing ..)
  intro k known closed allowed v unreferences owner
  have refused_iff : r.setRefused k = false ↔ allowed := r.setRefused_eq_false_iff k
  have written (taken : allowed) : exec (.set h id value) s = .next ((settle (r.writeSetting k v)).answer h 0x04#8
      (if v = value.toNat then .ok else .okClamped) ([id] ++ nat16 v)) := by
    rw [run, State.setRequest_taken known (refused_iff.2 taken)]
    rfl
  have cfg (j : Setting) : (r.writeSetting k v).1.cfg j = if j = k then v else s.cfg j := by
    rw [State.writeSetting_cfg, s.receiveFrame_cfg j]
  obtain ⟨hoist, drag, angle, cpt, period, filter, others⟩ := r.writeSetting_asu k v
  obtain ⟨formed, nothing⟩ := r.writeSetting_acts k v
  refine ⟨fun untaken => ?_, fun taken => ⟨(r.writeSetting k v).1, ?_, ?_⟩, fun taken => ⟨_, written taken, ?_⟩⟩
  · rw [run, State.setRequest_refused known (by simpa using mt refused_iff.1 untaken)]
    exact congrArg Host.Outcome.next (finish_nothing ..)
  · rw [s.receiveFrame_cfg] at filter
    exact ⟨(r.writeSetting_frame k v).1, (cfg k).trans (if_pos rfl), fun j other => (cfg j).trans (if_neg other), hoist, drag,
      angle, cpt, period, filter, others⟩
  · refine ⟨fun kept => ?_, fun lost => ?_⟩
    · rw [written taken, ← settle_nothing (r.writeSetting k v).1, ← nothing kept]
    · rw [written taken]
      exact congrArg (fun acts => Host.Outcome.next ((settle (_, acts)).answer h _ _ _)) (formed lost)
  · have kept : Steady (r.writeSetting k v).1 (settle (r.writeSetting k v)) := settle_steady (r.writeSetting_sparing k v)
    have after (j : Setting) : (settle (r.writeSetting k v)).cfg j = if j = k then v else s.cfg j :=
      (State.cfg_congr kept.settings j).trans (cfg j)
    have asu : ((settle (r.writeSetting k v)).answer h 0x04#8 (if v = value.toNat then .ok else .okClamped)
        ([id] ++ nat16 v)).asu = (r.writeSetting k v).1.asu := kept.steadyAsu
    rw [asu]
    exact ⟨(after k).trans (if_pos rfl), fun j other => (after j).trans (if_neg other), rfl,
      fun e => congrArg (·.hoist) (hoist e), fun e => congrArg (·.drag) (drag e), fun e => congrArg (·.swing) (angle e),
      fun e => congrArg (·.swing) (cpt e), fun e => congrArg (·.sampleTimers) (period e)⟩

end

namespace Sys2Proof.Machine

/-! ## The persistence filter (R148, R149) -/

/-- Codes 23 to 25 tell the ASU of a flip before the table (R149). -/
def Code.toldFirst : Code → List Act
  | .encoderFault a => [.faultState a]
  | _ => []

theorem State.takeSample_agrees {s : State} {c : Code} {raw : Bool} (h : raw = (s.definition c).active) (value : Option Int) :
    s.takeSample c raw value = (s.setDef c { s.definition c with run := 0 }, []) := if_pos h

theorem State.takeSample_counts {s : State} {c : Code} {raw : Bool} (h : raw ≠ (s.definition c).active)
    (more : 2 ≤ (s.definition c).persistence) (left : (s.definition c).run + 1 ≠ (s.definition c).persistence)
    (value : Option Int) :
    s.takeSample c raw value = (s.setDef c { s.definition c with run := (s.definition c).run + 1 }, []) := by
  unfold State.takeSample
  dsimp only
  rw [if_neg h, if_neg (by omega)]

theorem State.takeSample_raises {s : State} {c : Code} (h : (s.definition c).active = false)
    (flips : (s.definition c).persistence ≤ 1 ∨ (s.definition c).run + 1 = (s.definition c).persistence) (value : Option Int) :
    s.takeSample c true value =
      (s.setDef c { s.definition c with active := true, run := 0, raiseValue := value }, c.toldFirst ++ [.tableRaise c]) := by
  unfold State.takeSample
  dsimp only
  rw [if_neg (by simp [h]), if_pos flips]
  rfl

theorem State.takeSample_clears {s : State} {c : Code} (h : (s.definition c).active = true)
    (flips : (s.definition c).persistence ≤ 1 ∨ (s.definition c).run + 1 = (s.definition c).persistence) (value : Option Int) :
    s.takeSample c false value =
      (s.setDef c { s.definition c with active := false, run := 0, raiseValue := none }, c.toldFirst ++ [.tableClear c]) := by
  unfold State.takeSample
  dsimp only
  rw [if_neg (by simp [h]), if_pos flips]
  rfl

/-- An encoder fault's state that is inactive, or finds its axis unreferenced, does nothing (R6, R10). -/
theorem State.faultAt_nothing {s : State} {a : Axis}
    (h : (s.definition (.encoderFault a)).active = false ∨ s.isReferenced a = false) : s.faultAt a = (s, []) :=
  if_neg (by rcases h with h | h <;> simp [h])

/-- An active encoder fault takes the reference of its axis away (R6, R10). -/
theorem State.faultAt_lost {s : State} {a : Axis} (h : (s.definition (.encoderFault a)).active = true)
    (k : s.isReferenced a = true) :
    s.faultAt a = ({ s with asu := match a with
      | .hoist => { s.asu with hoist := { s.asu.hoist with referenced := false } }
      | .drag => { s.asu with drag := { s.asu.drag with referenced := false } }
      | .swing => { s.asu with swing := { s.asu.swing with referenced := false } } }, reformAll) := by
  unfold State.faultAt
  rw [if_pos (by rw [h, k]; rfl)]
  cases a <;> rfl

end Sys2Proof.Machine

section
open Sys2Proof Sys2Proof.Machine

/-- Settles O34, by the cases of the filter and of an encoder fault's state. -/
theorem samplesPassThePersistenceFilter : Obligations.SamplesPassThePersistenceFilter := by
  unfold Obligations.SamplesPassThePersistenceFilter
  intro s c raw value d first done
  have told : first = c.toldFirst := by cases c <;> rfl
  have taken : done = settle (s.takeSample c raw value) := settle_one _ s
  refine ⟨fun agrees => ?_, fun opposes more left => ?_, ?_, ?_, fun a => ?_⟩
  · rw [taken, State.takeSample_agrees agrees, settle_nothing]
  · rw [taken, State.takeSample_counts opposes more left, settle_nothing]
  · rintro rfl inactive flips
    rw [taken, State.takeSample_raises inactive flips, told]
  · rintro rfl active flips
    rw [taken, State.takeSample_clears active flips, told]
  · intro done active x lost referenced
    have told : done = settle (s.faultAt a) := settle_one _ s
    have reads : referenced = s.isReferenced a := by cases a <;> rfl
    rw [told, reads]
    refine ⟨fun nothing => ?_, fun faulty held => ?_⟩
    · rw [State.faultAt_nothing nothing, settle_nothing]
    · rw [State.faultAt_lost faulty held]
      cases a <;> rfl

end

namespace Sys2Proof.Machine

/-! ## The reset state -/

theorem definition_ofReset {t : State} (h : t.defs = defaultDefinitions) (c : Code) : t.definition c = c.defaultDefinition := by
  have placed : (Code.all.map Code.defaultDefinition)[c.idx.val]? = some c.defaultDefinition := by
    rw [List.getElem?_map, Code.all_idx]; rfl
  unfold State.definition
  rw [h]
  exact (List.getElem?_eq_some_iff.1 placed).2

theorem cfg_ofReset {t : State} (h : t.settings = defaultSettings) (k : Setting) : t.cfg k = k.row.dflt := by
  have placed : (Setting.all.map fun k => k.row.dflt)[k.idx.val]? = some k.row.dflt := by
    rw [List.getElem?_map, Setting.all_idx]; rfl
  unfold State.cfg
  rw [h]
  exact (List.getElem?_eq_some_iff.1 placed).2

/-- The contents of a bank after reset, record by record (R52). -/
theorem Bank.blank_records :
    (∀ i : Fin 16, Bank.blank.windows[i] = ⟨false, 0#12, 0#12, 0, false, false⟩) ∧
      (∀ i : Fin 9, Bank.blank.sectors[i] = ⟨0, 0, 0, 0, 0, 0, 0⟩) ∧
      (∀ i : Fin 16, Bank.blank.curves[i].count = 0 ∧ ∀ j : Fin 16, Bank.blank.curves[i].slots[j] = ⟨0, 0⟩) ∧
      Bank.blank.brake = 0 := by
  refine ⟨fun i => ?_, fun i => ?_, fun i => ⟨?_, fun j => ?_⟩, rfl⟩ <;> simp [Bank.blank]

/-- After reset no code is active or marked. -/
theorem reset_inactive (c : Code) :
    (State.reset.definition c).active = false ∧ (State.reset.definition c).pendingMark = false := by
  rw [definition_ofReset rfl]
  exact ⟨rfl, rfl⟩

/-- After reset the table holds no record. -/
theorem reset_find (c : Code) : State.reset.table.find c = none := by
  unfold AlarmTable.find
  split <;> rfl

/-! ### Each invariant at reset -/

theorem reset_outputsAgree : State.reset.outputsAgree := by
  unfold State.outputsAgree; decide

theorem reset_alarmsDelivered : State.reset.alarmsDelivered := by
  unfold State.alarmsDelivered State.channelHasSet; decide

theorem reset_interlocked : State.reset.interlocked := by
  unfold State.interlocked State.channelInterlocked State.walkInterlocked; decide

theorem reset_recordsAgree : State.reset.recordsAgree := by
  have channel : Channel.blank.recordAgrees := by unfold Channel.recordAgrees; decide
  have walk : WalkChannel.blank.recordAgrees := by
    unfold WalkChannel.recordAgrees
    exact ⟨by decide, by decide, by decide, nofun, by decide⟩
  exact ⟨channel, channel, channel, walk⟩

theorem reset_portsSound : State.reset.portsSound := by
  have port : Port.blank.isSound := by unfold Port.isSound; decide
  exact ⟨port, port, port, port⟩

theorem reset_ranged : State.reset.Ranged :=
  .ofReset rfl AxisUnit.blank_inRange (fun a => by cases a <;> rfl) rfl rfl rfl

theorem Code.floor_le_default (c : Code) : c.floor.rank ≤ c.defaultClass.rank := by
  cases c with
  | envelopeExcursion => decide
  | _ => exact Nat.le_refl _

theorem Code.defaultPersistence_range (c : Code) :
    c.defaultPersistence ≤ 15 ∧ (c.persistenceSettable = false → c.defaultPersistence = 0) := by
  cases c <;> simp [Code.defaultPersistence, Code.persistenceSettable]

theorem reset_tableSound : State.reset.tableSound := by
  refine ⟨by decide, by decide, fun _ h => absurd h List.not_mem_nil, fun r h => absurd h (Option.not_mem_none r),
    fun _ h => absurd h List.not_mem_nil, fun c _ => ?_, fun c _ marked => ?_, fun c h => absurd h (Option.not_mem_none c)⟩
  · rw [definition_ofReset rfl]
    exact ⟨rfl, c.floor_le_default⟩
  · rw [(reset_inactive c).2] at marked
    exact nomatch marked

theorem reset_codesAgree : State.reset.codesAgree := by
  refine ⟨fun c _ => ?_, fun _ h => absurd h List.not_mem_nil, fun c _ => ?_⟩
  · rw [(reset_inactive c).1, (reset_inactive c).2, reset_find]; rfl
  · rw [definition_ofReset rfl]
    exact c.defaultPersistence_range

theorem reset_conditionsFollow : State.reset.conditionsFollow := by
  have unmarked : State.reset.limitingMark = false := by
    rw [Bool.eq_false_iff, ne_eq, State.limitingMark_iff]
    rintro ⟨c, marked, _⟩
    rw [(reset_inactive c).2] at marked
    exact nomatch marked
  refine ⟨(reset_inactive _).1, fun a => ⟨?_, ?_⟩, (reset_inactive _).1, (reset_inactive _).1, ?_⟩
  · intro expired; cases a <;> exact nomatch expired
  · intro active
    rw [(reset_inactive _).1] at active
    exact nomatch active
  · rw [(reset_inactive _).1, unmarked]

theorem reset_sound : State.reset.sound := by
  obtain ⟨sensing, speeds, plan⟩ := State.reset.ranged_iff.1 reset_ranged
  exact ⟨reset_outputsAgree, reset_alarmsDelivered, reset_interlocked, reset_recordsAgree, reset_portsSound, sensing, speeds,
    plan, reset_tableSound, reset_codesAgree, reset_conditionsFollow, ⟨fun h => absurd rfl h, fun h => nomatch h⟩⟩

end Sys2Proof.Machine

section
open Sys2Proof Sys2Proof.Machine

/-- Settles O4, invariant by invariant. -/
theorem soundAtReset : Obligations.SoundAtReset := by
  unfold Obligations.SoundAtReset
  exact reset_sound

/-- Settles O3: each record's reset value, with the definitions and settings read by `definition_ofReset` and `cfg_ofReset`. -/
theorem resetStateHolds : Obligations.ResetStateHolds := by
  unfold Obligations.ResetStateHolds
  refine ⟨rfl, rfl, rfl, rfl, rfl, rfl, ?channels, by decide, rfl, rfl, rfl, rfl, ?ports, ?banks, definition_ofReset rfl,
    rfl, rfl, rfl, rfl, rfl, rfl, rfl, rfl, rfl, cfg_ofReset rfl, rfl, rfl, rfl, rfl, rfl, rfl, rfl, rfl, rfl, ?timers, rfl,
    rfl, rfl, rfl, rfl, rfl, by decide, rfl, rfl, rfl, rfl⟩
  case channels => intro a; cases a <;> decide
  case ports => intro m; cases m <;> decide
  case banks =>
    refine ⟨rfl, rfl, rfl, fun b bank => ?_⟩
    rw [show b = Bank.blank from bank.elim id id]
    exact Bank.blank_records
  case timers => intro a; cases a <;> rfl

end

namespace Sys2Proof.Machine

/-! ## Resets (R184, R185, R190) -/

/-- The two flags that the end of a reset can leave (R127, R191). -/
theorem isIn_flagsAfterReset (presence : BitVec 4) (f : EventFlag) :
    f.isIn (flagsAfterReset presence) = true ↔ f = .resetDone ∨ (f = .portChange ∧ presence ≠ 0#4) := by
  unfold flagsAfterReset
  by_cases none : presence = 0#4
  · rw [if_pos none]
    cases f with
    | halted m => cases m <;> simp [EventFlag.isIn, EventFlag.word, EventFlag.bit]
    | _ => simp [EventFlag.isIn, EventFlag.word, EventFlag.bit, none]
  · rw [if_neg none]
    cases f with
    | halted m => cases m <;> simp [EventFlag.isIn, EventFlag.word, EventFlag.bit]
    | _ => simp [EventFlag.isIn, EventFlag.word, EventFlag.bit, none]

theorem attnLevel_afterReset (presence : BitVec 4) : attnLevel (flagsAfterReset presence) 0#16 = true := by
  unfold flagsAfterReset
  split <;> decide

/-- The beginning of a reset leaves what R184 says. -/
theorem State.beginReset_begun (s : State) (cause : ResetCause) : s.resetBegun (s.beginReset cause) cause :=
  ⟨rfl, rfl, rfl, rfl, rfl, fun a => by cases a <;> rfl, rfl, rfl, rfl, rfl, rfl, fun m => by cases m <;> rfl,
    definition_ofReset rfl, rfl, cfg_ofReset rfl, rfl, rfl, rfl, rfl, rfl, rfl, rfl, rfl, rfl⟩

/-- The end of a reset leaves what R185 and R190 say. -/
theorem State.endReset_ended (s : State) (cause : ResetCause) (lines : ResetLines) :
    s.resetEnded (s.endReset cause lines) cause lines :=
  ⟨rfl, rfl, rfl, rfl, rfl, rfl, fun m => by cases m <;> rfl, isIn_flagsAfterReset _, rfl,
    by
      show (⟨false, false, false, attnLevel (flagsAfterReset lines.presence) 0#16⟩ : Pins) = _
      rw [attnLevel_afterReset],
    rfl, rfl, rfl, rfl, rfl, rfl, fun a => by cases a <;> rfl, rfl, rfl, rfl, rfl, rfl, definition_ofReset rfl, rfl,
    cfg_ofReset rfl, rfl, rfl⟩

/-- What a reset's beginning leaves is told from the state before it by the transaction, the lines and the queue alone. -/
theorem State.resetBegun_congr {s u t : State} {cause : ResetCause} (h : s.resetBegun t cause)
    (low : s.rport.selectLow = u.rport.selectLow) (untaken : s.rport.untaken = u.rport.untaken) (lines : s.lines = u.lines)
    (pending : s.pending = u.pending) : u.resetBegun t cause := by
  unfold State.resetBegun at h ⊢
  rw [low, untaken, lines, pending] at h
  exact h

theorem State.resetEnded_congr {s u t : State} {cause : ResetCause} {l : ResetLines} (h : s.resetEnded t cause l)
    (low : s.rport.selectLow = u.rport.selectLow) (untaken : s.rport.untaken = u.rport.untaken) (lines : s.lines = u.lines)
    (pending : s.pending = u.pending) : u.resetEnded t cause l := by
  unfold State.resetEnded at h ⊢
  rw [low, untaken, lines, pending] at h
  exact h

/-- A frame received ends its transaction and leaves the lines and the queue (R182, R186). -/
theorem State.receiveFrame_transaction (s : State) :
    s.receiveFrame.rport.selectLow = false ∧ s.receiveFrame.rport.untaken = false ∧ s.receiveFrame.lines = s.lines ∧
      s.receiveFrame.pending = s.pending := by
  have kept : Undisturbed _ s.receiveFrame := settle_undisturbed s.selectRise.restartWatchdog
  exact ⟨congrArg (·.selectLow) kept.rport, congrArg (·.untaken) kept.rport, kept.lines, kept.pending⟩

/-- A taken RESET request of length 0 begins a reset, which ends where RESET_N is high (R184). -/
theorem exec_reset_taken {s : State} {r : ResetRequest} (h : s.takesFrame r.header 0) :
    exec (.reset r) s = .next ((s.receiveFrame.beginReset .request).tryEndReset r.resetN r.lines) := by
  have length : lengthIs r.header 0 = true := beq_iff_eq.2 h.2
  show execReset r s = _
  unfold execReset
  rw [if_neg (by simp [h.1]), if_pos length]

end Sys2Proof.Machine

section
open Sys2Proof Sys2Proof.Machine

/-- Settles O11: `beginReset_begun` and `endReset_ended` for each event that begins or ends a reset. -/
theorem resetsBeginAndEnd : Obligations.ResetsBeginAndEnd := by
  unfold Obligations.ResetsBeginAndEnd
  refine ⟨⟨fun s => ⟨_, rfl, s.beginReset_begun _⟩, fun s micros long live => ?low, fun s micros ignored => ?ignored,
    fun s r taken => ?request⟩, fun s lines => ⟨fun n idle => ?idle, fun cause running => ?ends⟩⟩
  case low =>
    have begins : ¬(micros < Config.pinResetMicros ∨ s.inReset = true) := by simp [live, Config.pinResetMicros]; exact long
    exact ⟨_, congrArg Host.Outcome.next (if_neg begins), s.beginReset_begun _⟩
  case ignored => exact congrArg Host.Outcome.next (if_pos ignored)
  case request =>
    intro u
    obtain ⟨low, untaken, kept, queue⟩ := s.receiveFrame_transaction
    refine ⟨_, exec_reset_taken taken, ?_⟩
    generalize s.receiveFrame = v at low untaken kept queue
    have begun : u.resetBegun (v.beginReset .request) .request :=
      State.resetBegun_congr (v.beginReset_begun _) low untaken kept queue
    cases r.resetN with
    | false =>
      rw [State.tryEndReset_low]
      exact ⟨rfl, nofun, fun _ => begun⟩
    | true =>
      rw [State.tryEndReset_high (cause := .request) rfl]
      refine ⟨rfl, fun _ => ?_, nofun⟩
      exact State.resetEnded_congr ((v.beginReset .request).endReset_ended _ _) low
        (show (v.rport.selectLow || v.rport.untaken) = false by rw [low, untaken]; rfl) kept queue
  case idle => exact congrArg Host.Outcome.next (State.tryEndReset_idle idle n lines)
  case ends =>
    refine ⟨congrArg Host.Outcome.next (s.tryEndReset_low lines), _,
      congrArg Host.Outcome.next (State.tryEndReset_high running lines), rfl, s.endReset_ended _ _⟩

end

namespace Sys2Proof.Machine

/-! ## REFERENCE (R5) -/

/-- The code of a rope axis (12.4). -/
def ropeCode : Rope → Byte
  | .hoist => 0#8
  | .drag => 1#8

@[simp] theorem ropeOf_ropeCode (q : Rope) : ropeOf (ropeCode q) = some q := by cases q <;> rfl

theorem ropeOf_above {b : Byte} (h : 1 < b.toNat) : ropeOf b = none := by
  unfold ropeOf
  split
  · next zero => omega
  · next one => omega
  · rfl

theorem payoutOf_above {w : Word16} (h : 20000 < w.toNat) : payoutOf w = none :=
  if_neg (Nat.not_le_of_lt h)

theorem payoutOf_within {w : Word16} (h : w.toNat ≤ 20000) : payoutOf w = some w.toNat := if_pos h

/-- The owning channel of a rope's port is CLOSED (chapter 7). -/
theorem State.channelClosed_rope (s : State) (q : Rope) :
    s.channelClosed q.axis.motion = true ↔ (s.channels.get q.axis).state = .closed := by
  cases q <;> simp [State.channelClosed, Rope.axis, Axis.motion, PerAxis.get]

theorem State.referenceRequest_state {s : State} {q : Rope} {payout : Word16} (within : payout.toNat ≤ 20000)
    (h : (s.channels.get q.axis).state ≠ .closed ∨ (s.definition (.encoderFault q.axis)).active = true) :
    s.referenceRequest (ropeCode q) payout = refuse s .state := by
  unfold State.referenceRequest
  rw [ropeOf_ropeCode, payoutOf_within within]
  dsimp only
  by_cases closed : s.channelClosed q.axis.motion = true
  · rw [if_neg (by simp [closed]), if_pos (h.resolve_left fun open_ => open_ ((s.channelClosed_rope q).1 closed))]
  · rw [if_pos (by simpa using closed)]

theorem State.referenceRequest_taken {s : State} {q : Rope} {payout : Word16} (within : payout.toNat ≤ 20000)
    (closed : (s.channels.get q.axis).state = .closed) (sane : (s.definition (.encoderFault q.axis)).active = false) :
    s.referenceRequest (ropeCode q) payout = ⟨s.referenceTaken q payout.toNat, reformAll, .ok,
      [ropeCode q] ++ nat16 payout.toNat ++ bytes32 (s.rope q).count⟩ := by
  unfold State.referenceRequest
  rw [ropeOf_ropeCode, payoutOf_within within]
  dsimp only
  rw [if_neg (by simp [(s.channelClosed_rope q).2 closed]), if_neg (by simp [sane])]

end Sys2Proof.Machine

section
open Sys2Proof Sys2Proof.Machine

/-- Settles O19, check by check. -/
theorem referenceSetsThePoint : Obligations.ReferenceSetsThePoint := by
  unfold Obligations.ReferenceSetsThePoint
  intro s h payout frame r
  have run (axis : Byte) : exec (.reference h axis payout) s = .next (State.finish (r.referenceRequest axis payout) h.tag 0x15#8) :=
    congrArg Host.Outcome.next (State.request_ofLength frame _ _)
  have refused {axis : Byte} {status : Status} (k : r.referenceRequest axis payout = refuse r status) :
      exec (.reference h axis payout) s = .next (r.answer h 0x15#8 status []) := by
    rw [run, k]
    exact congrArg Host.Outcome.next (finish_nothing ..)
  refine ⟨fun axis above => refused ?_, fun q => ?_⟩
  · rw [State.referenceRequest, ropeOf_above above]
  · intro request x
    have spelled : request = .reference h (ropeCode q) payout := by cases q <;> rfl
    rw [spelled]
    refine ⟨fun above => refused ?_, fun within wrong => refused (State.referenceRequest_state within wrong),
      fun within closed sane => ?_⟩
    · rw [State.referenceRequest, ropeOf_ropeCode, payoutOf_above above]
    · rw [run, State.referenceRequest_taken within closed sane]
      cases q <;> rfl

end

namespace Sys2Proof.Machine

/-! ## The cam (R11, R12) -/

/-- The filter in force before some writes, as an item of the list of values, the latest first (R11). -/
theorem filterBefore_eq (n : Nat) : ∀ (now : Nat) (old : List Nat),
    filterBefore n now old = (now :: old).getD (min n old.length) 0 := by
  induction n with
  | zero => intro now old; rw [Nat.zero_min]; rfl
  | succ n ih =>
    intro now old
    cases old with
    | nil => rfl
    | cons last older =>
      rw [filterBefore_older, ih, List.length_cons, Nat.succ_min_succ]
      rfl

/-- A field event outside a reset. -/
theorem exec_camToothEdge {s : State} (h : s.inReset = false) (dir : CamDir) (p : Pulse) :
    exec (.camToothEdge dir p) s = .next (settle (if s.camPasses p then s.countTooth dir else (s, []))) :=
  congrArg Host.Outcome.next (State.event_live h _)

theorem exec_camIndexPassage {s : State} (h : s.inReset = false) (dir : CamDir) (p : Pulse) :
    exec (.camIndexPassage dir p) s = .next (settle (if s.camPasses p then s.passCamIndex dir else (s, []))) :=
  congrArg Host.Outcome.next (State.event_live h _)

theorem State.countTooth_quiet {s : State} {dir : CamDir} (h : dir = .forward ∨ s.asu.teeth ≠ 1#6) :
    s.countTooth dir = ({ s with asu := { s.asu with teeth := toothEdge s.asu.teeth dir } }, []) := by
  unfold State.countTooth
  rw [if_neg (by rcases h with rfl | h <;> simp [*])]
  rfl

theorem State.countTooth_arrival {s : State} (h : s.asu.teeth = 1#6) :
    s.countTooth .reverse = ({ s with asu := { s.asu with teeth := 0#6 } }, [.parkArrival .reverse]) := by
  unfold State.countTooth
  rw [if_pos ⟨rfl, h⟩, h]
  rfl

/-- A cam referenced at an index passage, with the flag where it was not before (R12). -/
def State.camReferencedAt (s : State) (teeth : Teeth) : State :=
  let u : State := { s with asu := { s.asu with teeth := teeth, camReferenced := true } }
  if s.asu.camReferenced then u else u.setFlag .referenced

theorem State.passCamIndex_reverse (s : State) : s.passCamIndex .reverse = (s.camReferencedAt 63#6, []) := rfl

theorem State.passCamIndex_forward (s : State) :
    s.passCamIndex .forward = (s.camReferencedAt 0#6,
      (if s.asu.camReferenced then [.sample .camSync (s.asu.teeth != 63#6) (some s.asu.teeth.toNat)] else []) ++
        [.parkArrival .forward]) := rfl

end Sys2Proof.Machine

section
open Sys2Proof Sys2Proof.Machine

/-- Settles O40: the filter by `filterBefore_eq`, then each edge and passage that it lets through. -/
theorem camIsCounted : Obligations.CamIsCounted := by
  unfold Obligations.CamIsCounted
  intro s p live values filter needed t at' passed
  have inForce : filterBefore p.writesSince (s.cfg .camFilter) s.asu.oldFilters = filter := filterBefore_eq _ _ _
  have passes : s.camPasses p = true ↔ needed ≤ p.stood := by
    unfold State.camPasses
    rw [inForce, decide_eq_true_iff]
    rfl
  refine ⟨fun short d => ?_, fun long => ?_⟩
  · have ignored : s.camPasses p ≠ true := fun pass => absurd (passes.1 pass) (Nat.not_le_of_lt short)
    rw [exec_camToothEdge live, exec_camIndexPassage live, if_neg ignored, if_neg ignored, settle_nothing]
    exact ⟨rfl, rfl⟩
  · have tooth (d : CamDir) : exec (.camToothEdge d p) s = .next (settle (s.countTooth d)) := by
      rw [exec_camToothEdge live, if_pos (passes.2 long)]
    have index (d : CamDir) : exec (.camIndexPassage d p) s = .next (settle (s.passCamIndex d)) := by
      rw [exec_camIndexPassage live, if_pos (passes.2 long)]
    refine ⟨?_, fun other => ?_, fun one => ?_, ?_, fun fresh => ?_, fun known => ?_⟩
    · rw [tooth, State.countTooth_quiet (.inl rfl), settle_nothing]; rfl
    · rw [tooth, State.countTooth_quiet (.inr other), settle_nothing]; rfl
    · rw [tooth, State.countTooth_arrival one]
    · rw [index, State.passCamIndex_reverse, settle_nothing]; rfl
    · rw [index, State.passCamIndex_forward, fresh]; rfl
    · have differ : (s.asu.teeth != 63#6) = decide (s.asu.teeth ≠ 63#6) :=
        Bool.eq_iff_iff.2 (bne_iff_ne.trans decide_eq_true_iff.symm)
      rw [index, State.passCamIndex_forward, known, differ]; rfl

end

namespace Sys2Proof.Machine

/-! ## Sample arrivals (R1, R3, R4, R9, R25, R150, R151) -/

theorem clampInt_below {lo hi v : Int} (h : v < lo) : clampInt lo hi v = lo := if_pos h

theorem clampInt_above {lo hi v : Int} (h : lo ≤ hi) (k : hi < v) : clampInt lo hi v = hi := by
  unfold clampInt
  rw [if_neg (by omega), if_pos k]

/-! ### The position of a rope axis -/

theorem perform_formPosition_rope (s : State) (q : Rope) : perform (.formPosition q.axis) s = s.formPayout q := by
  cases q <;> rfl

theorem State.formPayout_unreferenced {s : State} {q : Rope} (h : (s.rope q).referenced = false) :
    s.formPayout q = (s, [.sample (rangeCode q) false (some (s.rope q).payout)]) :=
  if_neg (by simp [h])

section
variable {s : State} {q : Rope} {v : Int} (referenced : (s.rope q).referenced = true)
  (unsat : unsaturated (s.rope q) (s.cfg (scaleOf q)) = v)
include referenced unsat

theorem State.formPayout_referenced :
    s.formPayout q = (s.setRope q { s.rope q with payout := saturate v },
      [.sample (rangeCode q) (decide (v < 0) || decide ((20000 : Int) < v)) (some (clampValue v))]) := by
  subst unsat
  exact if_pos referenced

theorem State.formPayout_within (low : 0 ≤ v) (high : v ≤ 20000) :
    s.formPayout q = (s.setRope q { s.rope q with payout := v.toNat }, [.sample (rangeCode q) false (some v)]) := by
  have inRange : (decide (v < 0) || decide ((20000 : Int) < v)) = false := by simp [low, high]
  rw [formPayout_referenced referenced unsat, inRange]
  rw [show saturate v = v.toNat from congrArg Int.toNat (clampInt_inside low high),
    show clampValue v = v from clampInt_inside (Int.le_trans (by decide) low) (Int.le_trans high (by decide))]

theorem State.formPayout_below (low : v < 0) :
    s.formPayout q = (s.setRope q { s.rope q with payout := 0 }, [.sample (rangeCode q) true (some (clampValue v))]) := by
  rw [formPayout_referenced referenced unsat, decide_eq_true low, Bool.true_or]
  rw [show saturate v = 0 from congrArg Int.toNat (clampInt_below low)]

theorem State.formPayout_above (high : 20000 < v) :
    s.formPayout q =
      (s.setRope q { s.rope q with payout := 20000 }, [.sample (rangeCode q) true (some (clampValue v))]) := by
  rw [formPayout_referenced referenced unsat, decide_eq_true high, Bool.or_true]
  rw [show saturate v = 20000 from congrArg Int.toNat (clampInt_above (by decide) high)]

end

/-! ### The swing angle and the envelope -/

theorem State.formAngle_referenced {s : State} (h : s.asu.swing.referenced = true) :
    s.formAngle = s.setAsu { s.asu with swing := { s.asu.swing with
      angle := swingAngle (s.cfg .swingCpt) s.asu.swing.count s.asu.swing.indexCount (s.cfg .swingIndexAngle) } } :=
  if_pos h

theorem State.formAngle_unreferenced {s : State} (h : s.asu.swing.referenced = false) : s.formAngle = s :=
  if_neg (by simp [h])

theorem State.envelopeActs_all {s : State} (h : s.allReferenced = true) :
    s.envelopeActs = [.sample .envelopeExcursion (!s.banks.active.containsAt s.angle s.payoutD s.payoutH)
      (some (s.banks.active.sectorNumber s.angle))] := if_pos h

theorem State.envelopeActs_some {s : State} (h : s.allReferenced = false) : s.envelopeActs = [] := if_neg (by simp [h])

end Sys2Proof.Machine

section
open Sys2Proof Sys2Proof.Machine

/-- Settles O41: the arrival itself, then each delivery that it queues, performed. -/
theorem samplesArrive : Obligations.SamplesArrive := by
  unfold Obligations.SamplesArrive
  refine ⟨fun s a line live => ?_, fun s q => ?_, fun s => ?_, fun s levels live => ?_⟩
  · refine ⟨s.beginArrival a line, congrArg Host.Outcome.next (State.event_live live _), rfl, rfl, fun b => ?_, rfl,
      fun b => ?_⟩
    · exact PerAxis.get_set ..
    · exact PerAxis.get_set ..
  · intro x scale code v carried
    have ranged : code = rangeCode q := by cases q <;> rfl
    have unsat : unsaturated (s.rope q) (s.cfg (scaleOf q)) = v := by cases q <;> rfl
    rw [settle_one, perform_formPosition_rope, ranged]
    refine ⟨fun unreferenced => ?_, fun known low high => ?_, fun known low => ?_, fun known high => ?_⟩
    · rw [State.formPayout_unreferenced unreferenced]
    · rw [State.formPayout_within known unsat low high]
    · rw [State.formPayout_below known unsat low]; rfl
    · rw [State.formPayout_above known unsat high]; rfl
  · intro x cpt offset nogo inside all
    have formed : settle (s, [.formPosition .swing]) = settle (s.formAngle, [.nogoSample]) := settle_one ..
    have enveloped : settle (s, [.envelopeSample]) = settle (s, s.envelopeActs) := settle_one ..
    refine ⟨fun known => ?_, fun unknown => ?_, settle_one .., fun every => ?_, fun missing => ?_⟩
    · rw [formed, State.formAngle_referenced known]; rfl
    · rw [formed, State.formAngle_unreferenced unknown]
    · rw [enveloped, State.envelopeActs_all every]; rfl
    · rw [enveloped, State.envelopeActs_some missing, settle_nothing]
  · intro raw
    have polar (i : Fin 8) : s.inputAct levels i = .sample (.input i) (raw i) none := rfl
    have sampled : exec (.externalInputSample levels) s = .next (settle (s.sampleInputs levels)) :=
      congrArg Host.Outcome.next (State.event_live live _)
    rw [sampled]
    unfold State.sampleInputs
    simp only [inputNumbers, List.map_cons, List.map_nil, polar]
    rfl

end

namespace Sys2Proof.Machine

/-! ## Encoder edges and the swing index mark (R2, R7, R8) -/

theorem exec_ropeEncoderEdge {s : State} (h : s.inReset = false) (q : Rope) (edge : QuadEdge) :
    exec (.ropeEncoderEdge q edge) s = .next (s.setRope q { s.rope q with count := countEdge (s.rope q).count edge }) :=
  congrArg Host.Outcome.next ((State.event_live h _).trans (settle_nothing _))

theorem exec_swingEncoderEdge {s : State} (h : s.inReset = false) (edge : QuadEdge) :
    exec (.swingEncoderEdge edge) s = .next (s.setAsu { s.asu with
      swing := { s.asu.swing with count := swingEdge (s.cfg .swingCpt) s.asu.swing.count edge } }) :=
  congrArg Host.Outcome.next ((State.event_live h _).trans (settle_nothing _))

/-- Below SWING_CPT the count passes its end at SWING_CPT exactly (R7). -/
theorem swingEdge_up {cpt n : Nat} (h : n < cpt) : swingEdge cpt n .up = if n + 1 = cpt then 0 else n + 1 := by
  unfold swingEdge
  by_cases last : n + 1 = cpt
  · rw [if_pos (Nat.le_of_eq last.symm), if_pos last]
  · rw [if_neg (by omega), if_neg last]

theorem exec_swingIndexMark {s : State} (h : s.inReset = false) : exec .swingIndexMark s = .next (settle s.passSwingIndex) :=
  congrArg Host.Outcome.next (State.event_live h _)

theorem State.passSwingIndex_known {s : State}
    (h : s.asu.swing.referenced = true ∨ (s.definition (.encoderFault .swing)).active = true) :
    s.passSwingIndex =
      (s.setAsu { s.asu with swing := { s.asu.swing with indexCount := s.asu.swing.count } }, []) :=
  if_pos (Bool.or_eq_true_iff.2 h)

theorem State.passSwingIndex_fresh {s : State} (unknown : s.asu.swing.referenced = false)
    (sane : (s.definition (.encoderFault .swing)).active = false) :
    s.passSwingIndex =
      ((s.setAsu { s.asu with swing :=
        ⟨s.asu.swing.count, s.asu.swing.count, BitVec.ofNat 12 (s.cfg .swingIndexAngle), true⟩ }).setFlag .referenced,
        reformAll) :=
  if_neg (by simp [unknown, sane])

/-! ## The inclinometer line (R14, R199) -/

/-- The part with these bytes of an inclinometer frame in progress. -/
def State.holdTilt (s : State) (frame : List Byte) : State := s.setAsu { s.asu with tiltFrame := frame }

theorem State.holdTilt_self {s : State} {frame : List Byte} (h : s.asu.tiltFrame = frame) : s.holdTilt frame = s := by
  subst h
  rfl

theorem State.tiltByte_ignored {s : State} {x : Byte} (idle : s.asu.tiltFrame = []) (other : x ≠ 0x96#8) :
    s.tiltByte x = (s, []) := if_pos (by simp [idle, other])

theorem State.tiltByte_kept {s : State} {x : Byte} (begun : s.asu.tiltFrame ≠ [] ∨ x = 0x96#8)
    (short : s.asu.tiltFrame.length < 5) : s.tiltByte x = (s.holdTilt (s.asu.tiltFrame ++ [x]), []) := by
  have taken : ¬(s.asu.tiltFrame.isEmpty && x != 0x96#8) = true := by
    rcases begun with h | rfl <;> simp [*]
  have more : (s.asu.tiltFrame ++ [x]).length < 6 := by
    rw [List.length_append, List.length_singleton]; omega
  exact (if_neg taken).trans (if_pos more)

section
variable {s : State} {sync p1 p0 r1 r0 : Byte} (five : s.asu.tiltFrame = [sync, p1, p0, r1, r0])
include five

/-- The sixth byte ends the frame in progress, read as a whole (R14, R199). -/
theorem State.tiltByte_last (x : Byte) :
    s.tiltByte x = match readTiltFrame [sync, p1, p0, r1, r0, x] with
      | some (pitch, roll) => (s.holdTilt []).takeTilt pitch roll
      | none => (s.holdTilt [], []) := by
  unfold State.tiltByte
  rw [five]
  rfl

theorem State.tiltByte_accepted {x : Byte} (good : x = crc8 [sync, p1, p0, r1, r0]) :
    s.tiltByte x = (s.holdTilt []).takeTilt (join16 p1 p0).toInt (join16 r1 r0).toInt := by
  rw [tiltByte_last five, readTiltFrame, if_pos good.symm]

theorem State.tiltByte_discarded {x : Byte} (bad : x ≠ crc8 [sync, p1, p0, r1, r0]) :
    s.tiltByte x = (s.holdTilt [], []) := by
  rw [tiltByte_last five, readTiltFrame, if_neg (Ne.symm bad)]

end

theorem State.takeTiltBytes_append (more : List Byte) : ∀ (first : List Byte) (s : State),
    s.takeTiltBytes (first ++ more) = (s.takeTiltBytes first).takeTiltBytes more
  | [], _ => rfl
  | _ :: rest, _ => takeTiltBytes_append more rest _

/-- Bytes inside a frame are kept up to its fifth. -/
theorem State.takeTiltBytes_kept : ∀ (bytes : List Byte) (s : State), s.asu.tiltFrame ≠ [] →
    s.asu.tiltFrame.length + bytes.length ≤ 5 → s.takeTiltBytes bytes = s.holdTilt (s.asu.tiltFrame ++ bytes)
  | [], s, _, _ => by rw [List.append_nil, State.holdTilt_self rfl]; rfl
  | x :: rest, s, begun, short => by
    rw [List.length_cons] at short
    have kept : settle (s.tiltByte x) = s.holdTilt (s.asu.tiltFrame ++ [x]) := by
      rw [State.tiltByte_kept (.inl begun) (by omega), settle_nothing]
    rw [State.takeTiltBytes, kept, State.takeTiltBytes_kept rest]
    · show s.holdTilt ((s.asu.tiltFrame ++ [x]) ++ rest) = _
      rw [List.append_assoc]; rfl
    · exact List.append_ne_nil_of_right_ne_nil _ (List.cons_ne_nil _ _)
    · show (s.asu.tiltFrame ++ [x]).length + rest.length ≤ 5
      rw [List.length_append, List.length_singleton]; omega

/-- The first five bytes of a frame, received between frames. -/
theorem State.takeTiltBytes_five {s : State} (idle : s.asu.tiltFrame = []) (p1 p0 r1 r0 : Byte) :
    s.takeTiltBytes [0x96#8, p1, p0, r1, r0] = s.holdTilt [0x96#8, p1, p0, r1, r0] := by
  have begun : settle (s.tiltByte 0x96#8) = s.holdTilt [0x96#8] := by
    rw [State.tiltByte_kept (.inr rfl) (by simp [idle]), settle_nothing, idle]; rfl
  have kept := State.takeTiltBytes_kept [p1, p0, r1, r0] (s.holdTilt [0x96#8]) (List.cons_ne_nil _ _) (Nat.le_refl 5)
  rw [State.takeTiltBytes, begun, kept]; rfl

theorem State.tiltByte_resetting (s : State) (x : Byte) : (s.tiltByte x).1.resetting = s.resetting := by
  unfold State.tiltByte
  dsimp only
  split
  · rfl
  · split
    · rfl
    · split <;> rfl

theorem State.takeTiltBytes_resetting : ∀ (bytes : List Byte) (s : State), (s.takeTiltBytes bytes).resetting = s.resetting
  | [], _ => rfl
  | x :: rest, s => by
    rw [State.takeTiltBytes, takeTiltBytes_resetting rest, (settle_undisturbed _).resetting, State.tiltByte_resetting]

theorem exec_inclinometerFrame {s : State} (h : s.inReset = false) (bytes : List Byte) :
    exec (.inclinometerFrame bytes) s = .next (s.takeTiltBytes bytes) :=
  congrArg Host.Outcome.next (if_neg (by simp [h]))

end Sys2Proof.Machine

section
open Sys2Proof Sys2Proof.Machine

/-- Settles O39: the counters, then the inclinometer line byte by byte. -/
theorem encodersAndInclinometer : Obligations.EncodersAndInclinometer := by
  unfold Obligations.EncodersAndInclinometer
  refine ⟨⟨fun s live => ⟨fun q => ⟨?_, ?_, ?_⟩, fun inside => ⟨?_, ?_⟩, ?_⟩, fun s live => ⟨fun known => ?_, fun unknown sane => ?_⟩⟩,
    fun s live => ?_⟩
  · exact exec_ropeEncoderEdge live q .up
  · exact exec_ropeEncoderEdge live q .down
  · rw [exec_ropeEncoderEdge live]; cases q <;> rfl
  · rw [exec_swingEncoderEdge live, swingEdge_up inside]; rfl
  · exact exec_swingEncoderEdge live .down
  · exact exec_swingEncoderEdge live .bothChannels
  · rw [exec_swingIndexMark live, State.passSwingIndex_known known, settle_nothing]; rfl
  · rw [exec_swingIndexMark live, State.passSwingIndex_fresh unknown sane]; rfl
  · intro timer clamp holding accepted
    have single (x : Byte) : exec (.inclinometerFrame [x]) s = .next (settle (s.tiltByte x)) := exec_inclinometerFrame live [x]
    refine ⟨fun p1 p0 r1 r0 crc idle => ?_, fun x => ⟨fun idle other => ?_, fun idle sync => ?_, fun begun short => ?_,
      fun sync p1 p0 r1 r0 five => ⟨fun good => ?_, fun bad => ?_⟩⟩, exec_inclinometerFrame live [], fun first more t taken => ?_,
      fun gap => ?_, fun running => ?_, fun stopped => ?_⟩
    · intro frame
      have whole : exec (.inclinometerFrame (frame ++ [crc])) s = .next (settle ((s.holdTilt frame).tiltByte crc)) := by
        rw [exec_inclinometerFrame live, State.takeTiltBytes_append, State.takeTiltBytes_five idle]; rfl
      refine ⟨fun good => ?_, fun bad => ?_⟩
      · rw [whole, State.tiltByte_accepted rfl good]; rfl
      · rw [whole, State.tiltByte_discarded rfl bad, settle_nothing]
        exact congrArg Host.Outcome.next (State.holdTilt_self idle)
    · rw [single, State.tiltByte_ignored idle other, settle_nothing]
    · rw [single, State.tiltByte_kept (.inr sync) (by simp [idle]), settle_nothing, idle]; rfl
    · rw [single, State.tiltByte_kept (.inl begun) short, settle_nothing]; rfl
    · rw [single, State.tiltByte_accepted five good]; rfl
    · rw [single, State.tiltByte_discarded five bad, settle_nothing]; rfl
    · rw [exec_inclinometerFrame live] at taken
      cases taken
      have stays : (s.takeTiltBytes first).inReset = false := by
        rw [State.inReset, State.takeTiltBytes_resetting]; exact live
      exact ⟨stays, by rw [exec_inclinometerFrame live, exec_inclinometerFrame stays, State.takeTiltBytes_append]⟩
    · have event : exec (.inclinometerFrameGap gap) s =
          .next (settle (if 5000 < gap then (s.holdTilt [], []) else (s, []))) :=
        congrArg Host.Outcome.next (State.event_live live _)
      refine ⟨fun long => ?_, fun brief => ?_⟩
      · rw [event, if_pos long, settle_nothing]; rfl
      · rw [event, if_neg (Nat.not_lt_of_le brief), settle_nothing]
    · have event : exec .stalenessTimerExpiry s = .next (settle s.staleExpiry) :=
        congrArg Host.Outcome.next (State.event_live live _)
      rw [event, State.staleExpiry, if_pos (Option.isSome_iff_ne_none.2 running)]; rfl
    · have event : exec .stalenessTimerExpiry s = .next (settle s.staleExpiry) :=
        congrArg Host.Outcome.next (State.event_live live _)
      rw [event, State.staleExpiry, if_neg (by simp [stopped]), settle_nothing]

end

namespace Sys2Proof.Machine

/-! ## The reference update of a channel (R44 to R50, R77 to R79) -/

/-- No taper is below 0, whatever the creep: a creep above 1000 gives terms from 1000 up to itself (R41). -/
theorem taper_nonneg_of_any_creep (b c : Nat) (m : Int) : 0 ≤ taper b c m := by
  rcases Nat.le_total c 1000 with within | beyond
  · exact taper_nonneg b c m within
  · unfold taper
    split
    · exact Int.le_refl 0
    · split
      · decide
      · have product : ((c : Int) - 1000) * m ≤ ((c : Int) - 1000) * b :=
          Int.mul_le_mul_of_nonneg_left (by omega) (by omega)
        have fall : (((c : Int) - 1000) * m).tdiv b ≤ (c : Int) - 1000 := by
          rw [Int.tdiv_eq_ediv_of_nonneg (Int.mul_nonneg (by omega) (by omega))]
          exact Int.ediv_le_of_le_mul (by omega) product
        rw [show (1000 - (c : Int)) = -((c : Int) - 1000) by omega, Int.neg_mul, Int.neg_tdiv]
        omega

theorem margin_pos_of_taper_ne_zero {b c : Nat} {m : Int} (h : taper b c m ≠ 0) : 0 < m :=
  Int.lt_of_not_ge fun full => h (if_pos full)

theorem Directions.along_of_pos (t : Directions) {v : Int} (h : 0 < v) : t.along v = t.pos := if_pos h

theorem Directions.along_of_neg (t : Directions) {v : Int} (h : v < 0) : t.along v = t.neg := if_neg (by omega)

theorem Directions.along_congr (t : Directions) {v w : Int} (h : 0 < v ↔ 0 < w) : t.along v = t.along w := by
  simp only [Directions.along, h]

theorem State.brakingTerms_nonneg (s : State) : 0 ≤ s.brakingTerms.pos ∧ 0 ≤ s.brakingTerms.neg := by
  unfold State.brakingTerms
  split
  · decide
  · exact ⟨brakingOf_nonneg _ _, brakingOf_nonneg _ _⟩

/-- No limiting term is below 0, whatever the settings (R41, R42, R50). -/
theorem State.limitingTerms_along_nonneg (s : State) (a : Axis) (v : Int) : 0 ≤ (s.limitingTerms a).along v := by
  have both : 0 ≤ (s.limitingTerms a).pos ∧ 0 ≤ (s.limitingTerms a).neg := by
    cases a with
    | hoist => exact ⟨taper_nonneg_of_any_creep _ _ _, taper_nonneg_of_any_creep _ _ _⟩
    | drag => exact ⟨taper_nonneg_of_any_creep _ _ _, taper_nonneg_of_any_creep _ _ _⟩
    | swing => exact s.brakingTerms_nonneg
  unfold Directions.along
  split
  · exact both.1
  · exact both.2

/-! ### The permitted value (R44 to R49) -/

/-- The least of the terms other than the demand that a permitted value keeps to (R45 to R48). -/
def State.allowance (s : State) (a : Axis) (c : Channel) : Int :=
  match c.mode with
  | .maint => min (s.cfg (creepOf a)) c.derate
  | .follow =>
    if a = .swing ∧ s.atNogo = true then min (s.cfg (creepOf a)) c.derate
    else min (s.activeSector.capOf a) (min c.derate ((s.limitingTerms a).along c.readDemand))

section
variable {s : State} {a : Axis} {c : Channel}

theorem State.allowance_maint (maint : c.mode = .maint) :
    s.allowance a c = min (s.cfg (creepOf a) : Int) c.derate := by
  rw [allowance, maint]

theorem State.allowance_nogo (follow : c.mode = .follow) (nogo : a = .swing ∧ s.atNogo = true) :
    s.allowance a c = min (s.cfg (creepOf a) : Int) c.derate := by
  rw [allowance, follow]; exact if_pos nogo

theorem State.allowance_follow (follow : c.mode = .follow) (plain : ¬(a = .swing ∧ s.atNogo = true)) :
    s.allowance a c =
      min (s.activeSector.capOf a : Int) (min (c.derate : Int) ((s.limitingTerms a).along c.readDemand)) := by
  rw [allowance, follow]; exact if_neg plain

end

theorem State.allowance_nonneg (s : State) (a : Axis) (c : Channel) : 0 ≤ s.allowance a c := by
  have limiting := s.limitingTerms_along_nonneg a c.readDemand
  unfold State.allowance
  split
  · omega
  · split <;> omega

/-- In either mode the permitted value is the demand cut to the allowance (R45 to R49). -/
theorem State.permittedValue_eq (s : State) (a : Axis) (c : Channel) :
    s.permittedValue a c = signed c.readDemand (min (magnitude c.readDemand) (s.allowance a c)) := by
  unfold State.permittedValue
  cases mode : c.mode with
  | maint => rw [allowance_maint mode]; rfl
  | follow =>
    unfold State.permittedFollow
    by_cases nogo : a = .swing ∧ s.atNogo = true
    · rw [allowance_nogo mode nogo, nogo.1]; exact if_pos ⟨rfl, nogo.2⟩
    · rw [allowance_follow mode nogo]; exact if_neg nogo

theorem signed_of_pos {d : Int} (h : 0 < d) (m : Int) : signed d m = m := if_pos h

theorem signed_of_neg {d : Int} (h : d < 0) (m : Int) : signed d m = -m := by
  rw [signed, if_neg (by omega), if_pos h]

theorem signed_zero (m : Int) : signed 0 m = 0 := rfl

theorem magnitude_of_pos {v : Int} (h : 0 < v) : magnitude v = v := by unfold magnitude; omega

theorem magnitude_of_neg {v : Int} (h : v < 0) : magnitude v = -v := by unfold magnitude; omega

section
variable {s : State} {a : Axis} {c : Channel}

theorem State.permittedValue_of_pos (h : 0 < c.readDemand) :
    s.permittedValue a c = min c.readDemand (s.allowance a c) := by
  rw [permittedValue_eq, signed_of_pos h, magnitude_of_pos h]

theorem State.permittedValue_of_neg (h : c.readDemand < 0) :
    s.permittedValue a c = -min (-c.readDemand) (s.allowance a c) := by
  rw [permittedValue_eq, signed_of_neg h, magnitude_of_neg h]

theorem State.permittedValue_of_zero (h : c.readDemand = 0) : s.permittedValue a c = 0 := by
  rw [permittedValue_eq, h, signed_zero]

/-- A permitted value that is not 0 points where its demand does, with an allowance there (R49). -/
theorem State.permittedValue_direction (h : s.permittedValue a c ≠ 0) :
    (0 < s.permittedValue a c ↔ 0 < c.readDemand) ∧ s.allowance a c ≠ 0 := by
  have room := s.allowance_nonneg a c
  rcases Int.lt_trichotomy c.readDemand 0 with down | rest | up
  · rw [permittedValue_of_neg down] at h ⊢; omega
  · exact absurd (permittedValue_of_zero rest) h
  · rw [permittedValue_of_pos up] at h ⊢; omega

/-- An allowance in FOLLOW needs a limiting term in the demand's direction, which at a NOGO angle is 1000 (R42, R45 to R47). -/
theorem State.limitingTerm_ne_zero_of_allowance (follow : c.mode = .follow) (h : s.allowance a c ≠ 0) :
    (s.limitingTerms a).along c.readDemand ≠ 0 := by
  by_cases nogo : a = .swing ∧ s.atNogo = true
  · obtain ⟨rfl, nogo⟩ := nogo
    rw [show s.limitingTerms .swing = ⟨1000, 1000⟩ from if_pos nogo, Directions.along, ite_self]
    decide
  · rw [allowance_follow follow nogo] at h
    omega

/-- In FOLLOW no permitted value points where the limiting term is 0 (R45 to R50). -/
theorem State.permittedValue_admitted (follow : c.mode = .follow) (h : s.permittedValue a c ≠ 0) :
    (s.limitingTerms a).along (s.permittedValue a c) ≠ 0 := by
  obtain ⟨toward, room⟩ := permittedValue_direction h
  rw [Directions.along_congr _ toward]
  exact limitingTerm_ne_zero_of_allowance follow room

end

/-! ### The new reference (R78, R79) -/

/-- A ramped reference that is not 0 points where the previous one did, or, from 0, where the permitted value does (R78). -/
theorem ramp_direction {accel decel r p : Int} (ha : 0 ≤ accel) (hd : 0 ≤ decel) (h : ramp accel decel r p ≠ 0) :
    r ≠ 0 ∧ (0 < ramp accel decel r p ↔ 0 < r) ∨ r = 0 ∧ p ≠ 0 ∧ (0 < ramp accel decel r p ↔ 0 < p) := by
  obtain ⟨-, fromAbove, fromBelow⟩ := towardZero_bounds r decel hd
  generalize moved : ramp accel decel r p = n at h ⊢
  unfold ramp magnitude at moved
  split at moved
  · omega
  · split at moved
    · split at moved
      · omega
      · split at moved <;> omega
    · split at moved
      · split at moved
        · omega
        · split at moved <;> omega
      · omega

/-- In FOLLOW no new reference points where the limiting term is 0, when no permitted value does: the ramp turns only at 0, and
a reference kept is one that the limit stop let through (R78, R79). -/
theorem State.newReference_admitted {s : State} {a : Axis} {c : Channel} {p : Int} (follow : c.mode = .follow)
    (permitted : p ≠ 0 → (s.limitingTerms a).along p ≠ 0) (h : s.newReference a c p ≠ 0) :
    (s.limitingTerms a).along (s.newReference a c p) ≠ 0 := by
  unfold State.newReference at h ⊢
  split at h
  · exact absurd rfl h
  · next passed =>
    rw [if_neg passed]
    rcases ramp_direction (Int.natCast_nonneg _) (Int.natCast_nonneg _) h with ⟨moving, kept⟩ | ⟨-, asked, turned⟩
    · rw [Directions.along_congr _ kept]
      simpa [State.limitStop, follow, moving] using passed
    · rw [Directions.along_congr _ turned]
      exact permitted asked

/-! ### The update in each state (R77) -/

section
variable {s : State} {a : Axis}

theorem State.channelUpdate_running (running : (s.channel a).state = .running) :
    let p := s.permittedValue a (s.channel a)
    let r := s.newReference a (s.channel a) p
    s.channelUpdate a =
      (s.setChannel a { s.channel a with permitted := p, reference := r }, ⟨r, true, .release⟩) := by
  unfold State.channelUpdate
  dsimp only
  rw [running]

theorem State.channelUpdate_stopping_reference (stopping : (s.channel a).state = .parking ∨ (s.channel a).state = .closing) :
    (s.channelUpdate a).2.reference = s.newReference a (s.channel a) 0 := by
  unfold State.channelUpdate
  rcases stopping with parking | closing
  · simp only [parking]
  · simp only [closing]

/-- A FOLLOW channel in motion hands its port no reference where the limiting term is 0 (R77 to R79). -/
theorem State.channelUpdate_admitted (follow : (s.channel a).mode = .follow)
    (moving : (s.channel a).state = .running ∨ (s.channel a).state = .parking ∨ (s.channel a).state = .closing)
    (h : (s.channelUpdate a).2.reference ≠ 0) :
    (s.limitingTerms a).along (s.channelUpdate a).2.reference ≠ 0 := by
  rcases moving with running | stopping
  · rw [channelUpdate_running running] at h ⊢
    exact newReference_admitted follow (permittedValue_admitted follow) h
  · rw [channelUpdate_stopping_reference stopping] at h ⊢
    exact newReference_admitted follow (absurd rfl) h

end

end Sys2Proof.Machine

section
open Sys2Proof Sys2Proof.Machine

/-- Settles O48: the permitted value is the demand cut to the allowance, which is the least of the terms of the mode. -/
theorem permittedValuesKeepTheirTerms : Obligations.PermittedValuesKeepTheirTerms := by
  unfold Obligations.PermittedValuesKeepTheirTerms
  intro s a c running t handed p d sector cap creep derate nogoSwing
  have updated := State.channelUpdate_running running
  have stored : t.channels.get a = (s.channelUpdate a).1.channels.get a := rfl
  rw [updated, State.setChannel_channels, PerAxis.get_set_same] at stored
  have permitted : p = s.permittedValue a c := congrArg Channel.permitted stored
  have capped : cap = s.activeSector.capOf a := by
    unfold cap; cases a <;> rfl
  have room : 0 ≤ s.allowance a c := s.allowance_nonneg a c
  have maint : c.mode = .maint → s.allowance a c = min creep derate := fun m => State.allowance_maint m
  have nogo (m : c.mode = .follow) (k : nogoSwing) : s.allowance a c = min creep derate := State.allowance_nogo m k
  have follow (m : c.mode = .follow) (k : ¬nogoSwing) :
      s.allowance a c = min cap (min derate ((s.limitingTerms a).along d)) := capped ▸ State.allowance_follow m k
  refine ⟨?_, fun rest => ?_, fun up => ?_, fun down => ?_⟩
  · rw [stored]
    exact congrArg Prod.snd updated
  · exact permitted.trans (State.permittedValue_of_zero rest)
  · have cut : p = min d (s.allowance a c) := permitted.trans (State.permittedValue_of_pos up)
    rw [Directions.along_of_pos _ up] at follow
    exact ⟨cut ▸ Int.le_min.2 ⟨Int.le_of_lt up, room⟩, fun m => by rw [cut, maint m],
      fun m k => by rw [cut, follow m k], fun m k => by rw [cut, nogo m k]⟩
  · have cut : p = -min (-d) (s.allowance a c) := permitted.trans (State.permittedValue_of_neg down)
    have nonneg : 0 ≤ min (-d) (s.allowance a c) := Int.le_min.2 ⟨by omega, room⟩
    rw [Directions.along_of_neg _ down] at follow
    exact ⟨cut ▸ Int.neg_nonpos_of_nonneg nonneg, fun m => by rw [cut, maint m],
      fun m k => by rw [cut, follow m k], fun m k => by rw [cut, nogo m k]⟩

/-- Settles O50: a reference handed in FOLLOW has a limiting term other than 0 in its direction, and a rope's limiting term is
0 where its margin has no room. -/
theorem noReferenceIntoALimit : Obligations.NoReferenceIntoALimit := by
  unfold Obligations.NoReferenceIntoALimit
  intro s a c follow moving r
  have admitted : r ≠ 0 → (s.limitingTerms a).along r ≠ 0 := State.channelUpdate_admitted follow moving
  have up (h : 0 < r) : (s.limitingTerms a).pos ≠ 0 := Directions.along_of_pos _ h ▸ admitted (by omega)
  have down (h : r < 0) : (s.limitingTerms a).neg ≠ 0 := Directions.along_of_neg _ h ▸ admitted (by omega)
  cases a with
  | hoist => exact ⟨fun h => margin_pos_of_taper_ne_zero (up h), fun h => margin_pos_of_taper_ne_zero (down h)⟩
  | drag => exact ⟨fun h => margin_pos_of_taper_ne_zero (up h), fun h => margin_pos_of_taper_ne_zero (down h)⟩
  | swing => exact ⟨up, down⟩

end

namespace Sys2Proof.Machine

/-! ## What leaves the Configuration Banks alone

Only a commit's test reaches the banks among the deliveries, and only the staging requests, COMMIT, COMMIT_CANCEL, the commit
timer and resets among the commands; the lemmas here say of the other operations that the banks stand. -/

namespace State

variable (s : State)

/-! ### Channels -/

@[simp] theorem closeTo_banks (a : Axis) (cause : HaltCause) : (s.closeTo a cause).1.banks = s.banks := by
  unfold closeTo
  dsimp only
  split <;> rfl

@[simp] theorem lookParked_banks (a : Axis) : (s.lookParked a).1.banks = s.banks := by
  unfold lookParked
  dsimp only
  split
  · rfl
  · split
    · rfl
    · split
      · exact s.closeTo_banks a _
      · rfl

@[simp] theorem reform_banks (a : Axis) : (s.reform a).1.banks = s.banks := by
  unfold reform
  dsimp only
  split
  · split <;> rfl
  · split <;> rfl
  · split
    · rfl
    · exact lookParked_banks _ a
  all_goals rfl

@[simp] theorem sendFinal_banks (m : Motion) : (s.sendFinal m).banks = s.banks := by
  unfold sendFinal
  split <;> rfl

@[simp] theorem tripAt_banks (a : Axis) : (s.tripAt a).1.banks = s.banks := by
  unfold tripAt
  split
  · rfl
  · simp

@[simp] theorem portLostAt_banks (a : Axis) : (s.portLostAt a).1.banks = s.banks := by
  unfold portLostAt
  split
  · rfl
  · exact s.closeTo_banks a _

@[simp] theorem replyAt_banks (a : Axis) (d : DriveStatus) : (s.replyAt a d).1.banks = s.banks := by
  unfold replyAt
  dsimp only
  split
  · split <;> rfl
  · split
    · rfl
    · split <;> rfl
  · split
    · rfl
    · split
      · exact s.closeTo_banks a _
      · rfl
  all_goals rfl

/-! ### The walk -/

@[simp] theorem walkToIdle_banks (cause : HaltCause) : (s.walkToIdle cause).1.banks = s.banks := by
  unfold walkToIdle
  dsimp only
  split <;> rfl

@[simp] theorem walkToStopped_banks (cause : HaltCause) : (s.walkToStopped cause).1.banks = s.banks := rfl

@[simp] theorem haltWalk_banks (cause : HaltCause) : (s.haltWalk cause).1.banks = s.banks := by
  unfold haltWalk
  split
  · unfold haltOpening
    split <;> rfl
  · unfold haltStepping
    split
    · rfl
    · split <;> rfl
  all_goals rfl

@[simp] theorem reformHalts_banks : s.reformHalts.1.banks = s.banks := by
  unfold reformHalts
  dsimp only
  split
  · exact haltWalk_banks _ _
  · rfl

@[simp] theorem tripAtWalk_banks : s.tripAtWalk.1.banks = s.banks := by
  unfold tripAtWalk
  dsimp only
  split
  case h_6 => split <;> simp
  case h_7 =>
    split
    · split <;> simp
    all_goals simp
  all_goals simp

@[simp] theorem portLostAtWalk_banks : s.portLostAtWalk.1.banks = s.banks := by
  unfold portLostAtWalk
  split
  · rfl
  · exact s.walkToIdle_banks _

@[simp] theorem walkConfirmed_banks : s.walkConfirmed.1.banks = s.banks := by
  unfold walkConfirmed
  dsimp only
  split
  · split <;> rfl
  · split <;> rfl
  · split
    · split <;> rfl
    · rfl
  all_goals rfl

@[simp] theorem walkClosed_banks : s.walkClosed.1.banks = s.banks := by
  unfold walkClosed
  split
  · split
    · exact s.walkToIdle_banks _
    · rfl
  · exact s.walkToIdle_banks _
  · rfl

@[simp] theorem replyAtWalk_banks (d : DriveStatus) : (s.replyAtWalk d).1.banks = s.banks := by
  unfold replyAtWalk
  dsimp only
  split
  · split
    · exact s.walkConfirmed_banks
    · rfl
  · split
    · rfl
    · split
      · exact s.walkClosed_banks
      · rfl
  all_goals rfl

@[simp] theorem countStep_banks (dir : CamDir) : (s.countStep dir).1.banks = s.banks := by
  unfold countStep
  split
  · split
    · split <;> rfl
    · rfl
  · rfl

@[simp] theorem arriveAtPark_banks (dir : CamDir) : (s.arriveAtPark dir).1.banks = s.banks := by
  unfold arriveAtPark
  split
  · exact s.countStep_banks dir
  · split
    · exact s.countStep_banks dir
    · rfl
  all_goals rfl

@[simp] theorem decideAtPark_banks (dir : CamDir) : (s.decideAtPark dir).1.banks = s.banks := by
  unfold decideAtPark
  split
  · rfl
  · split
    · rfl
    · split
      · rfl
      · split
        · rfl
        · split <;> rfl

@[simp] theorem endHalt_banks : s.endHalt.1.banks = s.banks := by
  unfold endHalt
  split <;> rfl

/-! ### The other receivers -/

@[simp] theorem takeSample_banks (c : Code) (raw : Bool) (v : Option Int) : (s.takeSample c raw v).1.banks = s.banks := by
  unfold takeSample
  dsimp only
  split
  · rfl
  · split
    · split <;> rfl
    · rfl

@[simp] theorem receiveAtSupervisor_banks : s.receiveAtSupervisor.1.banks = s.banks := by
  unfold receiveAtSupervisor
  dsimp only
  split <;> rfl

@[simp] theorem evaluateHold_banks : s.evaluateHold.banks = s.banks := by
  unfold evaluateHold
  dsimp only
  split <;> rfl

@[simp] theorem faultAt_banks (a : Axis) : (s.faultAt a).1.banks = s.banks := by
  unfold faultAt
  split
  · cases a <;> rfl
  · rfl

@[simp] theorem formAt_banks (a : Axis) : (s.formAt a).1.banks = s.banks := by
  have rope (r : Rope) : (s.formPayout r).1.banks = s.banks := by
    unfold formPayout
    dsimp only
    split
    · exact s.setRope_banks r _
    · rfl
  cases a with
  | hoist => exact rope .hoist
  | drag => exact rope .drag
  | swing =>
    show s.formAngle.banks = s.banks
    unfold formAngle
    dsimp only
    split <;> rfl

end State

/-- No delivery but the test of a commit reaches the banks. -/
theorem perform_banks {act : Act} (h : act ≠ .commitTest) (s : State) : (perform act s).1.banks = s.banks := by
  cases act with
  | sample c raw v => exact s.takeSample_banks c raw v
  | maintSample => exact s.takeSample_banks _ _ _
  | faultState a => exact s.faultAt_banks a
  | tableRaise c => exact (onlyTable_raiseRecord s c).banks
  | tableClear c => exact (onlyTable_clearRecord s c).banks
  | receiveChannel a => exact State.reform_banks _ a
  | receiveWalk => exact State.reformHalts_banks _
  | receiveSupervisor => exact s.receiveAtSupervisor_banks
  | reformChannel a => exact s.reform_banks a
  | reformWalk => exact s.reformHalts_banks
  | parkedLook a => exact s.lookParked_banks a
  | commitTest => exact absurd rfl h
  | holdEffective => exact s.evaluateHold_banks
  | tripChannel a => exact s.tripAt_banks a
  | tripWalk => exact s.tripAtWalk_banks
  | portLost m =>
    cases m with
    | hoist => exact s.portLostAt_banks .hoist
    | drag => exact s.portLostAt_banks .drag
    | swing => exact s.portLostAt_banks .swing
    | walk => exact s.portLostAtWalk_banks
  | reply m d =>
    cases m with
    | hoist => exact s.replyAt_banks .hoist d
    | drag => exact s.replyAt_banks .drag d
    | swing => exact s.replyAt_banks .swing d
    | walk => exact s.replyAtWalk_banks d
  | formPosition a => exact s.formAt_banks a
  | parkArrival dir => exact s.arriveAtPark_banks dir
  | parkDecide dir => exact s.decideAtPark_banks dir
  | haltClose => exact s.endHalt_banks
  | _ => rfl

end Sys2Proof.Machine

namespace Sys2Proof.Machine

/-! ## The events that leave the banks alone -/

namespace State

variable (s : State)

/-! ### Ports -/

@[simp] theorem countMiss_banks (m : Motion) : (s.countMiss m).1.banks = s.banks := by
  unfold countMiss
  dsimp only
  split <;> rfl

@[simp] theorem goodReply_banks (m : Motion) (d : DriveStatus) : (s.goodReply m d).1.banks = s.banks := by
  unfold goodReply
  dsimp only
  split <;> rfl

@[simp] theorem judgeFrame_banks (m : Motion) (f : Option StatusFrame) : (s.judgeFrame m f).1.banks = s.banks := by
  unfold judgeFrame
  split
  · rfl
  · split
    · rfl
    · split
      · exact s.countMiss_banks m
      · split
        · exact s.goodReply_banks m _
        · split
          · rfl
          · exact s.countMiss_banks m

@[simp] theorem enquiryReply_banks (m : Motion) (f : Option StatusFrame) : (s.enquiryReply m f).1.banks = s.banks := by
  unfold enquiryReply
  dsimp only
  split
  · split
    · split <;> rfl
    · rfl
  · rfl

@[simp] theorem receiveStatus_banks (m : Motion) (bytes : List Byte) : (s.receiveStatus m bytes).1.banks = s.banks := by
  unfold receiveStatus
  split
  · exact s.judgeFrame_banks m _
  · exact s.enquiryReply_banks m _
  all_goals rfl

@[simp] theorem resetTick_banks (m : Motion) : (s.resetTick m).1.banks = s.banks := by
  unfold resetTick
  dsimp only
  split
  · split <;> split <;> rfl
  · rfl

@[simp] theorem presenceTaken_banks (m : Motion) (active : Bool) : (s.presenceTaken m active).1.banks = s.banks := by
  unfold presenceTaken
  dsimp only
  split <;> rfl

@[simp] theorem watchExpiry_banks (m : Motion) : (s.watchExpiry m).1.banks = s.banks := by
  unfold watchExpiry
  dsimp only
  split
  · rfl
  · split <;> rfl

@[simp] theorem channelUpdate_banks (a : Axis) : (s.channelUpdate a).1.banks = s.banks := by
  unfold channelUpdate
  dsimp only
  split <;> rfl

@[simp] theorem walkUpdate_banks : s.walkUpdate.1.banks = s.banks := by
  unfold walkUpdate
  dsimp only
  split <;> rfl

@[simp] theorem updateAndSend_banks (m : Motion) : (s.updateAndSend m).banks = s.banks := by
  cases m with
  | hoist => exact s.channelUpdate_banks .hoist
  | drag => exact s.channelUpdate_banks .drag
  | swing => exact s.channelUpdate_banks .swing
  | walk => exact s.walkUpdate_banks

@[simp] theorem linkPeriod_banks (m : Motion) : (s.linkPeriod m).1.banks = s.banks := by
  unfold linkPeriod
  dsimp only
  split
  · rfl
  · split <;> split <;> simp

/-! ### Sensing -/

@[simp] theorem passSwingIndex_banks : s.passSwingIndex.1.banks = s.banks := by
  unfold passSwingIndex
  dsimp only
  split <;> rfl

@[simp] theorem passCamIndex_banks (dir : CamDir) : (s.passCamIndex dir).1.banks = s.banks := by
  unfold passCamIndex
  cases dir <;> dsimp only <;> split <;> rfl

@[simp] theorem tiltByte_banks (b : Byte) : (s.tiltByte b).1.banks = s.banks := by
  unfold tiltByte
  dsimp only
  split
  · rfl
  · split
    · rfl
    · split <;> rfl

@[simp] theorem staleExpiry_banks : s.staleExpiry.1.banks = s.banks := by
  unfold staleExpiry
  split <;> rfl

/-! ### Timers -/

@[simp] theorem openExpiry_banks (a : Axis) : (s.openExpiry a).1.banks = s.banks := by
  unfold openExpiry
  dsimp only
  split
  · exact s.closeTo_banks a _
  · rfl

@[simp] theorem anyRestExpiry_banks (m : Motion) : (s.anyRestExpiry m).banks = s.banks := by
  have axis (a : Axis) : (s.restExpiry a).banks = s.banks := by
    unfold restExpiry
    dsimp only
    split <;> rfl
  cases m with
  | hoist => exact axis .hoist
  | drag => exact axis .drag
  | swing => exact axis .swing
  | walk =>
    show s.walkRestExpiry.banks = s.banks
    unfold walkRestExpiry
    dsimp only
    split <;> rfl

@[simp] theorem demandExpiry_banks (a : Axis) : (s.demandExpiry a).1.banks = s.banks := by
  unfold demandExpiry
  dsimp only
  split <;> rfl

@[simp] theorem walkOpenExpiry_banks : s.walkOpenExpiry.1.banks = s.banks := by
  unfold walkOpenExpiry
  split
  · split <;> simp
  · rfl

@[simp] theorem walkDemandExpiry_banks : s.walkDemandExpiry.banks = s.banks := by
  unfold walkDemandExpiry
  split <;> rfl

@[simp] theorem shelveExpiry_banks (code : Byte) : (s.shelveExpiry code).1.banks = s.banks := by
  unfold shelveExpiry
  split
  · rfl
  · split <;> rfl

@[simp] theorem watchdogExpiry_banks : s.watchdogExpiry.1.banks = s.banks := by
  unfold watchdogExpiry
  split <;> rfl

/-! ### Requests -/

@[simp] theorem takeDemand_banks (a : Axis) (v : Int) : (s.takeDemand a v).1.banks = s.banks := by
  unfold takeDemand
  dsimp only
  split <;> rfl

@[simp] theorem takeWalkDemand_banks (v : Int) : (s.takeWalkDemand v).banks = s.banks := by
  unfold takeWalkDemand
  dsimp only
  split <;> rfl

@[simp] theorem openTaken_banks (a : Axis) (mode : Mode) : (s.openTaken a mode).1.banks = s.banks := by
  unfold openTaken
  dsimp only
  split <;> rfl

@[simp] theorem ackEach_banks (codes : List Code) : ∀ s : State, (s.ackEach codes).banks = s.banks := by
  induction codes with
  | nil => exact fun _ => rfl
  | cons c rest ih => exact fun s => (ih (s.ackRecord c)).trans (onlyTable_ackRecord s c).banks

end State

/-! ## Validation is kept (R60 to R64) -/

namespace State.banksValidated

variable {s : State}

theorem ofBanks {t : State} (h : s.banksValidated) (k : t.banks = s.banks) : t.banksValidated := by
  unfold State.banksValidated
  rw [k]
  exact h

/-- Banks with no commit pending are validated where a committed ACTIVE is, whatever STAGED holds. -/
theorem unpended {t : State} (h : t.banks.generation ≠ 0 → t.banks.active.validate = none) (idle : t.banks.commit = none) :
    t.banksValidated := ⟨h, fun pending => by simp [idle] at pending⟩

theorem withStaged (h : s.banksValidated) (idle : s.banks.commit = none) (b : Bank) : (s.withStaged b).banksValidated :=
  unpended h.1 idle

/-- A completion brings into force what was validated when it was committed (R64). -/
theorem completeCommit (h : s.banksValidated) (pending : s.banks.commit.isSome = true) : s.completeCommit.banksValidated := by
  have valid : s.banks.staged.validate = none := h.2 pending
  unfold State.completeCommit State.handGeneration
  dsimp only
  split
  · exact unpended (fun _ => valid) rfl
  · exact unpended (fun _ => valid) rfl

theorem testCommit (h : s.banksValidated) : s.testCommit.banksValidated := by
  unfold State.testCommit
  split
  · exact h
  · next p pending =>
    split
    · exact h.completeCommit (by rw [pending]; rfl)
    · exact ⟨h.1, fun _ => h.2 (by rw [pending]; rfl)⟩

theorem commitExpiry (h : s.banksValidated) : s.commitExpiry.banksValidated := by
  unfold State.commitExpiry
  split
  · exact h
  · exact unpended h.1 rfl

theorem perform (act : Act) (h : s.banksValidated) : (perform act s).1.banksValidated := by
  by_cases test : act = .commitTest
  · exact test ▸ h.testCommit
  · exact h.ofBanks (perform_banks test s)

theorem settle {r : State × List Act} (h : r.1.banksValidated) : (settle r).banksValidated :=
  settle_keeps (P := State.banksValidated) (fun act _ k => k.perform act) r h

theorem event (h : s.banksValidated) {f : State → State × List Act} (own : (f s).1.banksValidated) :
    (s.event f).banksValidated := by
  unfold State.event
  split
  · exact h
  · exact settle own

theorem receiveFrame (h : s.banksValidated) : s.receiveFrame.banksValidated := settle (r := s.selectRise.restartWatchdog) h

theorem request (h : s.banksValidated) (x : Header) (code : Byte) (ok : Bool) {owner : State → Answer}
    (own : ∀ u : State, u.banksValidated → (owner u).state.banksValidated) : (s.request x code ok owner).banksValidated := by
  unfold State.request
  split
  · exact h
  · dsimp only
    split
    · exact settle (own _ h.receiveFrame)
    · exact h.receiveFrame

theorem takeTiltBytes (bytes : List Byte) : ∀ {s : State}, s.banksValidated → (s.takeTiltBytes bytes).banksValidated := by
  induction bytes with
  | nil => exact fun h => h
  | cons b rest ih => exact fun h => ih (settle (h.ofBanks (State.tiltByte_banks _ b)))

theorem beginReset (s : State) (cause : ResetCause) : (s.beginReset cause).banksValidated :=
  unpended (absurd rfl) rfl

theorem tryEndReset (h : s.banksValidated) (resetN : Bool) (lines : ResetLines) :
    (s.tryEndReset resetN lines).banksValidated := by
  unfold State.tryEndReset
  split
  · split
    · exact unpended (absurd rfl) rfl
    · exact h
  · exact h

theorem tick (h : s.banksValidated) : s.tick.banksValidated := by
  unfold State.tick
  split
  · exact h
  · exact ⟨h.1, fun pending => h.2 (by rwa [← Option.isSome_map])⟩

end State.banksValidated

end Sys2Proof.Machine

namespace Sys2Proof.Machine

/-! ## What the owner of a request can answer (R188)

Every owner but those of WALK_START and COMMIT changes nothing where it refuses, and every one of them keeps the banks
validated where it grants. -/

/-- An owner's answer that changes and hands on nothing where it refuses, and keeps the banks validated. -/
structure Answer.Proper (s : State) (a : Answer) : Prop where
  refused : a.status.refuses = true → a.state = s ∧ a.acts = []
  validated : s.banksValidated → a.state.banksValidated

@[simp] theorem okOr_refuses (clamped : Bool) : (okOr clamped).refuses = false := by
  cases clamped <;> rfl

namespace Answer.Proper

variable {s : State}

theorem refuse (x : Status) : (refuse s x).Proper s := ⟨fun _ => ⟨rfl, rfl⟩, id⟩

/-- A request granted that leaves the banks. -/
theorem granted {a : Answer} (grants : a.status.refuses = false) (banks : a.state.banks = s.banks) : a.Proper s where
  refused refuses := nomatch grants.symm.trans refuses
  validated h := h.ofBanks banks

theorem reply (payload : List Byte) : (reply s payload).Proper s := granted rfl rfl

/-- A request granted that writes STAGED with no commit pending (R60). -/
theorem staged {b : Bank} {x : Status} {payload : List Byte} (grants : x.refuses = false) (idle : s.banks.commit = none) :
    (Answer.mk (s.withStaged b) [] x payload).Proper s where
  refused refuses := nomatch grants.symm.trans refuses
  validated h := h.withStaged idle b

/-! ### Settings, flags and the snapshot -/

theorem setRequest (id : Byte) (value : Word16) : (s.setRequest id value).Proper s := by
  unfold State.setRequest
  split
  · exact refuse _
  · split
    · exact refuse _
    · exact granted (okOr_refuses _) (congrArg (·.banks) (s.writeSetting_frame _ _).1)

theorem getRequest (id : Byte) : (s.getRequest id).Proper s := by
  unfold State.getRequest
  split
  · exact refuse _
  · exact reply _

/-! ### Motion requests -/

theorem demandRequest (hd dd sd wd : Word16) : (s.demandRequest hd dd sd wd).Proper s :=
  granted (okOr_refuses _) (by simp [State.demandRequest])

theorem openRequest (channel mode : Byte) : (s.openRequest channel mode).Proper s := by
  unfold State.openRequest
  split
  · split
    · unfold State.openAxis
      split
      · exact refuse _
      · exact granted rfl (s.openTaken_banks _ _)
    · unfold State.openWalk
      split
      · exact refuse _
      · split
        · exact refuse _
        · exact granted rfl rfl
  · exact refuse _

theorem closeRequest (channel : Byte) : (s.closeRequest channel).Proper s := by
  unfold State.closeRequest
  split
  · exact refuse _
  · split
    · unfold State.closeAxis
      split
      · exact granted rfl rfl
      · exact granted rfl rfl
      · exact granted rfl rfl
      · exact granted rfl (s.closeTo_banks _ _)
      · exact reply _
      · exact reply _
    · unfold State.closeWalk
      split
      · exact granted rfl (s.haltWalk_banks _)
      · exact granted rfl (s.haltWalk_banks _)
      · exact granted rfl (s.haltWalk_banks _)
      · split
        · exact granted rfl (s.walkToIdle_banks _)
        · exact refuse _
      all_goals exact reply _

theorem holdRequest (flag : Bool) : (s.holdRequest flag).Proper s := by
  unfold State.holdRequest
  split
  · exact reply _
  · exact granted rfl rfl

theorem referenceRequest (axis : Byte) (payout : Word16) : (s.referenceRequest axis payout).Proper s := by
  unfold State.referenceRequest
  split
  · exact refuse _
  · split
    · exact refuse _
    · split
      · exact refuse _
      · split
        · exact refuse _
        · exact granted rfl (s.setRope_banks _ _)

theorem resumeRequest : s.resumeRequest.Proper s := by
  unfold State.resumeRequest
  split
  · exact reply _
  · exact reply _
  · split
    · exact refuse _
    · split <;> exact granted rfl rfl

/-! ### Ports -/

theorem portResetRequest (m : Motion) : (s.portResetRequest m).Proper s := by
  unfold State.portResetRequest
  dsimp only
  split
  · exact granted rfl rfl
  · exact granted rfl rfl
  · split
    · exact granted rfl rfl
    · exact refuse _
  · exact refuse _
  · exact refuse _

theorem portDisableRequest (m : Motion) : (s.portDisableRequest m).Proper s := by
  unfold State.portDisableRequest
  split
  · exact granted rfl rfl
  · exact refuse _

/-! ### Banks -/

theorem staging {owner : Answer} (own : s.banks.commit = none → owner.Proper s) : (s.staging owner).Proper s := by
  unfold State.staging
  split
  · exact refuse _
  · next idle => exact own (by simpa using idle)

section
variable (idle : s.banks.commit = none)
include idle

theorem stageWindowRequest (window marks : Byte) (base mask : Word16) (sector : Byte) :
    (s.stageWindowRequest window marks base mask sector).Proper s := by
  unfold State.stageWindowRequest
  split
  · split
    · exact staged rfl idle
    · exact refuse _
  · exact refuse _

theorem stageSectorRequest (sector ceiling floor : Byte) (dmin dmax hoistCap dragCap swingCap : Word16) :
    (s.stageSectorRequest sector ceiling floor dmin dmax hoistCap dragCap swingCap).Proper s := by
  unfold State.stageSectorRequest
  split
  · split
    · exact staged (okOr_refuses _) idle
    · exact refuse _
  · exact refuse _

theorem stageLengthRequest (curve n : Byte) : (s.stageLengthRequest curve n).Proper s := by
  unfold State.stageLengthRequest
  split
  · exact refuse _
  · split
    · exact refuse _
    · exact staged rfl idle

theorem stagePointsRequest (curve first : Byte) (points : List RawPoint) : (s.stagePointsRequest curve first points).Proper s := by
  unfold State.stagePointsRequest
  split
  · exact refuse _
  · split
    · exact refuse _
    · split
      · exact refuse _
      · exact staged rfl idle

theorem stageBrakeRequest (curve : Byte) : (s.stageBrakeRequest curve).Proper s := by
  unfold State.stageBrakeRequest
  split
  · exact refuse _
  · exact staged rfl idle

end

theorem cancelRequest : s.cancelRequest.Proper s := by
  unfold State.cancelRequest
  split
  · exact refuse _
  · exact ⟨nofun, fun h => .unpended h.1 rfl⟩

theorem configGetRequest (bank item index first : Byte) : (s.configGetRequest bank item index first).Proper s := by
  unfold State.configGetRequest
  split
  · exact refuse _
  · split
    · exact reply _
    · exact refuse _

theorem sectorAtRequest (angle : Word16) (bank : Byte) : (s.sectorAtRequest angle bank).Proper s := by
  unfold State.sectorAtRequest
  split
  · exact refuse _
  · split
    · exact refuse _
    · exact reply _

/-! ### The plan and the walk -/

theorem legAppendRequest (window steps : Byte) (speed : Word16) : (s.legAppendRequest window steps speed).Proper s := by
  unfold State.legAppendRequest
  split
  · exact refuse _
  · split
    · exact refuse _
    · split
      · exact refuse _
      · exact granted (okOr_refuses _) rfl

theorem legDropRequest (id : Byte) : (s.legDropRequest id).Proper s := by
  unfold State.legDropRequest
  split
  · exact refuse _
  · dsimp only
    split
    · exact refuse _
    · exact granted rfl rfl

theorem planClearRequest : s.planClearRequest.Proper s := by
  unfold State.planClearRequest
  split
  · exact refuse _
  · exact granted rfl rfl

theorem planGetRequest (first : Byte) : (s.planGetRequest first).Proper s := by
  unfold State.planGetRequest
  split
  · exact refuse _
  · exact reply _

theorem walkHaltRequest : s.walkHaltRequest.Proper s := by
  have halted : (Answer.mk (s.haltWalk .halt).1 (s.haltWalk .halt).2 .accepted []).Proper s :=
    granted rfl (s.haltWalk_banks _)
  unfold State.walkHaltRequest
  split
  · exact halted
  · exact halted
  · exact halted
  all_goals exact reply _

/-! ### Alarms -/

theorem defineRequest (code cls scope p : Byte) (cap : Word16) (polarity : Byte) :
    (s.defineRequest code cls scope p cap polarity).Proper s := by
  unfold State.defineRequest
  split
  · exact refuse _
  · split
    · split
      · exact refuse _
      · split
        · exact refuse _
        · exact granted (okOr_refuses _) rfl
    · exact refuse _

theorem raiseRequest (code : Byte) (value : Option Int) : (s.raiseRequest code value).Proper s := by
  unfold State.raiseRequest
  split
  · exact refuse _
  · exact granted (okOr_refuses _) rfl

theorem clearRequest (code : Byte) : (s.clearRequest code).Proper s := by
  unfold State.clearRequest
  split
  · exact refuse _
  · exact granted rfl rfl

theorem ackRequest (code : Byte) : (s.ackRequest code).Proper s := by
  unfold State.ackRequest
  split
  · exact refuse _
  · split
    · exact granted rfl (onlyTable_ackRecord s _).banks
    · exact granted rfl (onlyTable_ackRecord s _).banks
    · exact reply _
    · exact reply _

theorem ackAllRequest : s.ackAllRequest.Proper s := granted rfl (State.ackEach_banks _ s)

theorem shelveRequest (code minutes : Byte) : (s.shelveRequest code minutes).Proper s := by
  unfold State.shelveRequest
  split
  · exact refuse _
  · split
    · exact refuse _
    · split
      · exact refuse _
      · exact granted (okOr_refuses _) rfl

theorem unshelveRequest (code : Byte) : (s.unshelveRequest code).Proper s := by
  unfold State.unshelveRequest
  split
  · exact refuse _
  · split
    · exact granted rfl rfl
    · exact refuse _

end Answer.Proper

/-- An owner whose answer is proper in whatever state the request reaches it. -/
def ProperOwner (owner : State → Answer) : Prop := ∀ s, (owner s).Proper s

/-- Every request but WALK_START, COMMIT and RESET is carried out by an owner whose answers are proper. -/
theorem exec_request_proper {i : Instr} {h : Header} {code : Byte} (isRequest : requestOf i = some (h, code))
    (notStart : ∀ x, i ≠ .walkStart x) (notCommit : ∀ x, i ≠ .commit x) (notReset : ∀ x, i ≠ .reset x) :
    ∃ ok owner, ProperOwner owner ∧ ∀ s, exec i s = .next (s.request h code ok owner) := by
  have owned {ok : Bool} {owner : State → Answer} {x : Header} {c : Byte} (proper : ProperOwner owner)
      (run : ∀ s, exec i s = .next (s.request x c ok owner)) (named : some (x, c) = some (h, code)) :
      ∃ ok owner, ProperOwner owner ∧ ∀ s, exec i s = .next (s.request h code ok owner) := by
    cases named
    exact ⟨ok, owner, proper, run⟩
  cases i with
  | nop x => exact owned (fun _ => .reply _) (fun _ => rfl) isRequest
  | status x => exact owned (fun _ => .reply _) (fun _ => rfl) isRequest
  | reset r => exact absurd rfl (notReset r)
  | set x id value => exact owned (fun _ => .setRequest id value) (fun _ => rfl) isRequest
  | get x id => exact owned (fun _ => .getRequest id) (fun _ => rfl) isRequest
  | eventsAck x flags => exact owned (fun _ => .granted rfl rfl) (fun _ => rfl) isRequest
  | eventsMask x flags => exact owned (fun _ => .granted rfl rfl) (fun _ => rfl) isRequest
  | snapshot x => exact owned (fun _ => .granted rfl rfl) (fun _ => rfl) isRequest
  | snapshotRead x part =>
    refine owned (fun u => ?_) (fun _ => rfl) isRequest
    split
    · exact .reply _
    · exact .refuse _
  | demand x hd dd sd wd => exact owned (fun _ => .demandRequest hd dd sd wd) (fun _ => rfl) isRequest
  | openChannel x channel mode => exact owned (fun _ => .openRequest channel mode) (fun _ => rfl) isRequest
  | closeChannel x channel => exact owned (fun _ => .closeRequest channel) (fun _ => rfl) isRequest
  | holdAll x => exact owned (fun _ => .holdRequest true) (fun _ => rfl) isRequest
  | releaseAll x => exact owned (fun _ => .holdRequest false) (fun _ => rfl) isRequest
  | reference x axis payout => exact owned (fun _ => .referenceRequest axis payout) (fun _ => rfl) isRequest
  | resume x => exact owned (fun _ => .resumeRequest) (fun _ => rfl) isRequest
  | portReset x port =>
    refine owned (fun u => ?_) (fun _ => rfl) isRequest
    split
    · exact .portResetRequest _
    · exact .refuse _
  | portDisable x port =>
    refine owned (fun u => ?_) (fun _ => rfl) isRequest
    split
    · exact .portDisableRequest _
    · exact .refuse _
  | portGet x port =>
    refine owned (fun u => ?_) (fun _ => rfl) isRequest
    split
    · exact .reply _
    · exact .refuse _
  | stageWindow x window marks base mask sector =>
    exact owned (fun _ => .staging fun idle => .stageWindowRequest idle window marks base mask sector) (fun _ => rfl) isRequest
  | stageSector x sector ceiling floor dmin dmax hoistCap dragCap swingCap =>
    exact owned (fun _ => .staging fun idle => .stageSectorRequest idle sector ceiling floor dmin dmax hoistCap dragCap swingCap)
      (fun _ => rfl) isRequest
  | stageCurveLength x curve n =>
    exact owned (fun _ => .staging fun idle => .stageLengthRequest idle curve n) (fun _ => rfl) isRequest
  | stageCurvePoints x curve first points =>
    exact owned (fun _ => .staging fun idle => .stagePointsRequest idle curve first _) (fun _ => rfl) isRequest
  | stageBrakeCurve x curve =>
    exact owned (fun _ => .staging fun idle => .stageBrakeRequest idle curve) (fun _ => rfl) isRequest
  | stageClear x => exact owned (fun _ => .staging fun idle => .staged rfl idle) (fun _ => rfl) isRequest
  | stageCopy x => exact owned (fun _ => .staging fun idle => .staged rfl idle) (fun _ => rfl) isRequest
  | commit x => exact absurd rfl (notCommit x)
  | commitCancel x => exact owned (fun _ => .cancelRequest) (fun _ => rfl) isRequest
  | configGet x bank item index first =>
    exact owned (fun _ => .configGetRequest bank item index first) (fun _ => rfl) isRequest
  | sectorAt x angle bank => exact owned (fun _ => .sectorAtRequest angle bank) (fun _ => rfl) isRequest
  | legAppend x window steps speed => exact owned (fun _ => .legAppendRequest window steps speed) (fun _ => rfl) isRequest
  | legDrop x id => exact owned (fun _ => .legDropRequest id) (fun _ => rfl) isRequest
  | planClear x => exact owned (fun _ => .planClearRequest) (fun _ => rfl) isRequest
  | planGet x first => exact owned (fun _ => .planGetRequest first) (fun _ => rfl) isRequest
  | walkStart x => exact absurd rfl (notStart x)
  | walkHalt x => exact owned (fun _ => .walkHaltRequest) (fun _ => rfl) isRequest
  | define x code cls scope persistence cap polarity =>
    exact owned (fun _ => .defineRequest code cls scope persistence cap polarity) (fun _ => rfl) isRequest
  | definitionGet x code =>
    refine owned (fun u => ?_) (fun _ => rfl) isRequest
    split
    · exact .reply _
    · exact .refuse _
  | raise x code value => exact owned (fun _ => .raiseRequest code _) (fun _ => rfl) isRequest
  | clear x code => exact owned (fun _ => .clearRequest code) (fun _ => rfl) isRequest
  | ack x code => exact owned (fun _ => .ackRequest code) (fun _ => rfl) isRequest
  | ackAll x => exact owned (fun _ => .ackAllRequest) (fun _ => rfl) isRequest
  | shelve x code minutes => exact owned (fun _ => .shelveRequest code minutes) (fun _ => rfl) isRequest
  | unshelve x code => exact owned (fun _ => .unshelveRequest code) (fun _ => rfl) isRequest
  | silence x => exact owned (fun _ => .granted rfl rfl) (fun _ => rfl) isRequest
  | alarmListFirst x => exact owned (fun _ => .granted rfl rfl) (fun _ => rfl) isRequest
  | alarmListNext x =>
    refine owned (fun u => ?_) (fun _ => rfl) isRequest
    split <;> exact .granted rfl rfl
  | alarmGet x code =>
    refine owned (fun u => ?_) (fun _ => rfl) isRequest
    split
    · exact .reply _
    · exact .refuse _
  | _ => exact nomatch isRequest

end Sys2Proof.Machine

namespace Sys2Proof.Machine

/-! ## A refused request -/

/-- A request whose owner's answers are proper leaves, where it is refused, the frame received and the response (R188). -/
theorem State.request_refused {s : State} (taken : s.takesNothing = false) {owner : State → Answer} (proper : ProperOwner owner)
    (x : Header) (code : Byte) (ok : Bool) (refused : (s.request x code ok owner).rport.buffer.status.refuses = true) :
    s.request x code ok owner = s.receiveFrame.respond (s.request x code ok owner).rport.buffer := by
  cases ok with
  | false => rw [State.request_badLength taken]; rfl
  | true =>
    rw [State.request_taken taken] at refused ⊢
    obtain ⟨state, acts⟩ := (proper s.receiveFrame).refused refused
    unfold State.finish
    rw [state, acts, settle_nothing]
    rfl

/-! ## Every command keeps the banks validated -/

namespace State.banksValidated

variable {s : State}

/-- A COMMIT leaves one pending only where STAGED has just passed validation (R61). -/
theorem commitRequest (h : s.banksValidated) : s.commitRequest.state.banksValidated := by
  unfold State.commitRequest
  split
  · exact h
  · split
    · exact h
    · next valid => exact ⟨h.1, fun _ => valid⟩

theorem walkStartRequest (h : s.banksValidated) : s.walkStartRequest.state.banksValidated := by
  unfold State.walkStartRequest
  split
  · unfold State.startFromIdle
    split
    · exact h
    · split
      · exact h
      · split <;> exact h
  · unfold State.startRecovery
    split <;> exact h
  all_goals exact h

end State.banksValidated

theorem exec_request_banksValidated {s : State} (h : s.banksValidated) {i : Instr} {x : Header} {code : Byte}
    (isRequest : requestOf i = some (x, code)) (notStart : ∀ x, i ≠ .walkStart x) (notCommit : ∀ x, i ≠ .commit x)
    (notReset : ∀ x, i ≠ .reset x) : Leads State.banksValidated (exec i s) := by
  obtain ⟨ok, owner, proper, run⟩ := exec_request_proper isRequest notStart notCommit notReset
  rw [run]
  exact .next (h.request x code ok fun u k => (proper u).validated k)

theorem exec_banksValidated {s : State} (h : s.banksValidated) (i : Instr) : Leads State.banksValidated (exec i s) := by
  cases i with
  | reset r =>
    refine .next ?_
    split
    · exact h
    · split
      · exact (State.banksValidated.beginReset _ _).tryEndReset _ _
      · exact h.receiveFrame
  | commit x => exact .next (h.request x _ _ fun _ k => k.commitRequest)
  | walkStart x => exact .next (h.request x _ _ fun _ k => k.walkStartRequest)
  | frameError reason tag code =>
    refine .next ?_
    split <;> exact h
  | unknownRequest tag code =>
    refine .next ?_
    split
    · exact h
    · exact h.receiveFrame
  | selectFall gap => exact .next h
  | powerOn => exact .next (.beginReset s _)
  | resetNLow micros =>
    refine .next ?_
    split
    · exact h
    · exact .beginReset s _
  | resetEnd resetN lines => exact .next (h.tryEndReset resetN lines)
  | axisSampleArrival axis faultLine => exact .next (h.event h)
  | ropeEncoderEdge rope edge => exact .next (h.event (h.ofBanks (s.setRope_banks rope _)))
  | swingEncoderEdge edge => exact .next (h.event h)
  | swingIndexMark => exact .next (h.event (h.ofBanks s.passSwingIndex_banks))
  | camToothEdge dir pulse =>
    refine .next (h.event ?_)
    split <;> exact h
  | camIndexPassage dir pulse =>
    refine .next (h.event ?_)
    split
    · exact h.ofBanks (s.passCamIndex_banks dir)
    · exact h
  | inclinometerFrame bytes =>
    refine .next ?_
    split
    · exact h
    · exact State.banksValidated.takeTiltBytes bytes h
  | inclinometerFrameGap gap =>
    refine .next (h.event ?_)
    split <;> exact h
  | stalenessTimerExpiry => exact .next (h.event (h.ofBanks s.staleExpiry_banks))
  | externalInputSample levels => exact .next (h.event h)
  | presenceChange port active held =>
    refine .next (h.event ?_)
    split
    · exact h.ofBanks (s.presenceTaken_banks port active)
    · exact h
  | resetSequenceTick port => exact .next (h.event (h.ofBanks (s.resetTick_banks port)))
  | linkPeriodEvent port => exact .next (h.event (h.ofBanks (s.linkPeriod_banks port)))
  | driveStatusFrame port bytes => exact .next (h.event (h.ofBanks (s.receiveStatus_banks port bytes)))
  | openTimerExpiry axis => exact .next (h.event (h.ofBanks (s.openExpiry_banks axis)))
  | walkOpenTimerExpiry => exact .next (h.event (h.ofBanks s.walkOpenExpiry_banks))
  | restTimerExpiry channel => exact .next (h.event (h.ofBanks (s.anyRestExpiry_banks channel)))
  | demandTimerExpiry axis => exact .next (h.event (h.ofBanks (s.demandExpiry_banks axis)))
  | walkDemandTimerExpiry => exact .next (h.event (h.ofBanks s.walkDemandExpiry_banks))
  | brakeWatchTimerExpiry port => exact .next (h.event (h.ofBanks (s.watchExpiry_banks port)))
  | commitTimerExpiry => exact .next (h.event h.commitExpiry)
  | shelveTimerExpiry code => exact .next (h.event (h.ofBanks (s.shelveExpiry_banks code)))
  | linkWatchdogExpiry => exact .next (h.event (h.ofBanks s.watchdogExpiry_banks))
  | _ => exact exec_request_banksValidated h rfl nofun nofun nofun

end Sys2Proof.Machine

section
open Sys2Proof Sys2Proof.Machine

/-- Settles O60: a millisecond and every command keep the banks validated, whatever else a sound state promises. -/
theorem everyStepKeepsTheBanksValidated : Obligations.EveryStepKeepsTheBanksValidated := by
  unfold Obligations.EveryStepKeepsTheBanksValidated
  intro s t sound leads
  obtain ⟨_, _, _, _, _, _, _, _, _, _, _, validated⟩ := sound
  exact step_leads (P := State.banksValidated) validated.tick (fun _ => validated) (fun i k => exec_banksValidated k i) t leads

/-- Settles O8, by `exec_request_proper`: an owner's refusal changes and hands on nothing. -/
theorem aRefusedRequestChangesNothing : Obligations.ARefusedRequestChangesNothing := by
  unfold Obligations.ARefusedRequestChangesNothing
  intro i h code s t isRequest notStart notCommit notReset taken leads refused
  obtain ⟨ok, owner, proper, run⟩ := exec_request_proper isRequest notStart notCommit notReset
  rw [run] at leads
  cases leads
  exact State.request_refused taken proper h code ok refused

end

namespace Sys2Proof.Machine

/-! ## COMMIT, its test and its ends (R61 to R67, R179) -/

/-- A taken frame of the one allowed length whose owner hands nothing on is answered from the state the owner leaves (R188). -/
theorem State.request_answered {s : State} {x : Header} {n : Nat} (h : s.takesFrame x n) {code : Byte} {owner : State → Answer}
    {t : State} {status : Status} {payload : List Byte} (own : owner s.receiveFrame = ⟨t, [], status, payload⟩) :
    s.request x code (lengthIs x n) owner = t.answer x code status payload := by
  rw [State.request_ofLength h, own]
  exact finish_nothing ..

section
variable {s : State}

theorem State.commitRequest_busy (h : s.banks.commit ≠ none) : s.commitRequest = refuse s .busy := by
  obtain ⟨p, pending⟩ := Option.ne_none_iff_exists'.1 h
  rw [commitRequest, pending]

theorem State.commitRequest_invalid (idle : s.banks.commit = none) {d : CommitDetail} {n : Nat}
    (invalid : s.banks.staged.validate = some (d, n)) :
    s.commitRequest = ⟨s.setBanks { s.banks with outcome := some (.refused d n) }, [], .commitInvalid,
      [byteOf (commitDetailCode d), byteOf n]⟩ := by
  unfold State.commitRequest
  rw [idle, invalid]

theorem State.commitRequest_valid (idle : s.banks.commit = none) (valid : s.banks.staged.validate = none) :
    s.commitRequest =
      ⟨s.setBanks { s.banks with commit := some ⟨s.commitTimer, s.safeTest⟩ }, [.commitTest], .accepted, []⟩ := by
  unfold State.commitRequest
  rw [idle, valid]

theorem settle_commitTest (s : State) : settle (s, [.commitTest]) = s.testCommit :=
  (settle_one _ s).trans (settle_nothing _)

theorem State.testCommit_idle (idle : s.banks.commit = none) : s.testCommit = s := by
  rw [testCommit, idle]

theorem State.testCommit_holding {p : PendingCommit} (pending : s.banks.commit = some p) (safe : s.safeTest = .holding) :
    s.testCommit = s.completeCommit := by
  rw [testCommit, pending, safe]

theorem State.testCommit_failing {p : PendingCommit} (pending : s.banks.commit = some p) (failing : s.safeTest ≠ .holding) :
    s.testCommit = s.setBanks { s.banks with commit := some { p with lastTest := s.safeTest } } := by
  rw [testCommit, pending]
  dsimp only
  split
  · next holding => exact absurd holding failing
  · rfl

/-- The state in which a completed commit is handed to the Supervisor (R64). -/
def State.committed (s : State) : State :=
  (s.setBanks { s.banks with
    active := s.banks.staged, generation := nextGeneration s.banks.generation, commit := none
    outcome := some (.done (nextGeneration s.banks.generation)) }).setFlag .commitDone

theorem State.completeCommit_first (start : s.sup.operating = .start) (first : nextGeneration s.banks.generation = 1) :
    s.completeCommit = { s.committed with
      sup := { s.committed.sup with operating := .ready }, pins := { s.committed.pins with safeRun := true } } :=
  if_pos ⟨start, first⟩

theorem State.completeCommit_later (h : s.sup.operating ≠ .start ∨ nextGeneration s.banks.generation ≠ 1) :
    s.completeCommit = s.committed :=
  if_neg fun ⟨start, first⟩ => h.elim (absurd start) (absurd first)

theorem State.commitExpiry_pending (h : s.banks.commit ≠ none) :
    s.commitExpiry = (s.setBanks { s.banks with commit := none, outcome := some .abandoned }).setFlag .commitAbandoned := by
  obtain ⟨p, pending⟩ := Option.ne_none_iff_exists'.1 h
  rw [commitExpiry, pending]

theorem State.commitExpiry_idle (idle : s.banks.commit = none) : s.commitExpiry = s := by
  rw [commitExpiry, idle]

theorem State.cancelRequest_pending (h : s.banks.commit ≠ none) :
    s.cancelRequest = reply (s.setBanks { s.banks with commit := none, outcome := some .cancelled }) [] := by
  obtain ⟨p, pending⟩ := Option.ne_none_iff_exists'.1 h
  rw [cancelRequest, pending]

theorem State.cancelRequest_idle (idle : s.banks.commit = none) : s.cancelRequest = refuse s .state := by
  rw [cancelRequest, idle]

theorem exec_commitTimerExpiry (live : s.inReset = false) : exec .commitTimerExpiry s = .next s.commitExpiry :=
  congrArg Host.Outcome.next ((State.event_live live _).trans (settle_nothing _))

end

end Sys2Proof.Machine

section
open Sys2Proof Sys2Proof.Machine

/-- Settles O29, by whether a commit is pending. -/
theorem commitCancelEndsIt : Obligations.CommitCancelEndsIt := by
  unfold Obligations.CommitCancelEndsIt
  intro s h frame r
  exact ⟨fun pending => congrArg Host.Outcome.next (State.request_answered frame (State.cancelRequest_pending pending)),
    fun idle => congrArg Host.Outcome.next (State.request_answered frame (State.cancelRequest_idle idle))⟩

/-- Settles O27: COMMIT by its checks, the test by what the safe condition answers, the expiry by whether a commit is pending. -/
theorem commitRunsItsCourse : Obligations.CommitRunsItsCourse := by
  unfold Obligations.CommitRunsItsCourse
  refine ⟨fun s h frame => ?request, fun s => ?test, fun s live => ?expiry⟩
  case request =>
    refine ⟨fun pending => ?_, fun d n idle invalid => ?_, fun idle valid => ?_⟩
    · exact congrArg Host.Outcome.next (State.request_answered frame (State.commitRequest_busy pending))
    · refine congrArg Host.Outcome.next ((State.request_answered frame (State.commitRequest_invalid idle invalid)).trans ?_)
      cases d <;> rfl
    · refine congrArg Host.Outcome.next ((State.request_ofLength frame _ _).trans ?_)
      rw [State.commitRequest_valid idle valid]
      rfl
  case test =>
    intro g u
    rw [settle_commitTest]
    refine ⟨State.testCommit_idle, fun p pending => ⟨fun safe => ?_, State.testCommit_failing pending⟩⟩
    rw [State.testCommit_holding pending safe]
    exact ⟨State.completeCommit_first, State.completeCommit_later⟩
  case expiry =>
    rw [exec_commitTimerExpiry live]
    exact ⟨fun pending => congrArg Host.Outcome.next (State.commitExpiry_pending pending),
      fun idle => congrArg Host.Outcome.next (State.commitExpiry_idle idle)⟩

end

namespace Sys2Proof

/-- The x and y of a point of a STAGE_CURVE_POINTS are payouts (R57). -/
def RawPoint.Fits (p : RawPoint) : Prop := p.x.toNat ≤ 20000 ∧ p.y.toNat ≤ 20000

/-- A point of a STAGE_CURVE_POINTS as it is written (R57). -/
def RawPoint.point (p : RawPoint) : Machine.Point := ⟨p.x.toNat, p.y.toNat⟩

end Sys2Proof

namespace Sys2Proof.Machine

/-! ## The arguments of the staging requests (12.3, 12.4) -/

theorem sixteenOf_above {b : Byte} (h : 15 < b.toNat) : sixteenOf b = none := dif_neg (by omega)

theorem sixteenOf_eq {b : Byte} {i : Fin 16} (h : b.toNat = i.val) : sixteenOf b = some i := by
  unfold sixteenOf
  rw [dif_pos (by omega)]
  exact congrArg some (Fin.ext h)

theorem sixteenOf_within {b : Byte} (h : b.toNat ≤ 15) : ∃ i, sixteenOf b = some i :=
  ⟨⟨b.toNat, by omega⟩, sixteenOf_eq rfl⟩

theorem sectorOf_above {b : Byte} (h : 8 < b.toNat) : sectorOf b = none := dif_neg (by omega)

theorem sectorOf_eq {b : Byte} {i : Fin 9} (h : b.toNat = i.val) : sectorOf b = some i := by
  unfold sectorOf
  rw [dif_pos (by omega)]
  exact congrArg some (Fin.ext h)

theorem sectorOf_within {b : Byte} (h : b.toNat ≤ 8) : ∃ i, sectorOf b = some i :=
  ⟨⟨b.toNat, by omega⟩, sectorOf_eq rfl⟩

theorem sectorIndexOf_above {b : Byte} (h : 7 < b.toNat) : sectorIndexOf b = none := dif_neg (by omega)

theorem sectorIndexOf_eq {b : Byte} {i : Fin 8} (h : b.toNat = i.val) : sectorIndexOf b = some i := by
  unfold sectorIndexOf
  rw [dif_pos (by omega)]
  exact congrArg some (Fin.ext h)

theorem sectorIndexOf_within {b : Byte} (h : b.toNat ≤ 7) : ∃ i, sectorIndexOf b = some i :=
  ⟨⟨b.toNat, by omega⟩, sectorIndexOf_eq rfl⟩

theorem angleOf_above {w : Word16} (h : 4095 < w.toNat) : angleOf w = none := if_neg (by omega)

theorem angleOf_within {w : Word16} (h : w.toNat ≤ 4095) : angleOf w = some (w.setWidth 12) := if_pos h

theorem capOf_eq (w : Word16) : capOf w = if 1000 < w.toNat then 1000 else w.toNat := rfl

theorem capOf_eq_self_iff (w : Word16) : capOf w = w.toNat ↔ w.toNat ≤ 1000 := by
  rw [capOf_eq]
  split <;> omega

/-! ## Each staging request outside a pending commit (R54 to R58) -/

section
variable {s : State}

theorem State.stageWindowRequest_noSuch {window sector : Byte} (h : 15 < window.toNat ∨ 7 < sector.toNat)
    (marks : Byte) (base mask : Word16) : s.stageWindowRequest window marks base mask sector = refuse s .noSuch := by
  unfold State.stageWindowRequest
  rcases h with h | h
  · rw [sixteenOf_above h]
  · rw [sectorIndexOf_above h]
    cases sixteenOf window <;> rfl

theorem State.stageWindowRequest_range {window sector : Byte} {base mask : Word16} (hw : window.toNat ≤ 15)
    (hs : sector.toNat ≤ 7) (h : 4095 < base.toNat ∨ 4095 < mask.toNat) (marks : Byte) :
    s.stageWindowRequest window marks base mask sector = refuse s .range := by
  obtain ⟨i, window⟩ := sixteenOf_within hw
  obtain ⟨k, sector⟩ := sectorIndexOf_within hs
  unfold State.stageWindowRequest
  rw [window, sector]
  rcases h with h | h
  · rw [angleOf_above h]
  · rw [angleOf_above h]
    cases angleOf base <;> rfl

theorem State.stageWindowRequest_taken {window sector : Byte} {base mask : Word16} {i : Fin 16} {k : Fin 8}
    (hw : window.toNat = i.val) (hs : sector.toNat = k.val) (hb : base.toNat ≤ 4095) (hm : mask.toNat ≤ 4095) (marks : Byte) :
    let w : Window := ⟨byteBit marks 0, base.setWidth 12, mask.setWidth 12, k, byteBit marks 1, byteBit marks 2⟩
    s.stageWindowRequest window marks base mask sector =
      reply (s.withStaged { s.banks.staged with windows := s.banks.staged.windows.set i w }) (windowBytes i w) := by
  unfold State.stageWindowRequest
  rw [sixteenOf_eq hw, sectorIndexOf_eq hs, angleOf_within hb, angleOf_within hm]

theorem State.stageSectorRequest_noSuch {sector ceiling floor : Byte}
    (h : 8 < sector.toNat ∨ 15 < ceiling.toNat ∨ 15 < floor.toNat) (dmin dmax hc dc sc : Word16) :
    s.stageSectorRequest sector ceiling floor dmin dmax hc dc sc = refuse s .noSuch := by
  unfold State.stageSectorRequest
  rcases h with h | h | h
  · rw [sectorOf_above h]
  · rw [sixteenOf_above h]
    cases sectorOf sector <;> rfl
  · rw [sixteenOf_above h]
    cases sectorOf sector <;> cases sixteenOf ceiling <;> rfl

theorem State.stageSectorRequest_range {sector ceiling floor : Byte} {dmin dmax : Word16} (hs : sector.toNat ≤ 8)
    (hc : ceiling.toNat ≤ 15) (hf : floor.toNat ≤ 15) (h : 20000 < dmin.toNat ∨ 20000 < dmax.toNat) (hcap dcap scap : Word16) :
    s.stageSectorRequest sector ceiling floor dmin dmax hcap dcap scap = refuse s .range := by
  obtain ⟨i, sector⟩ := sectorOf_within hs
  obtain ⟨c, ceiling⟩ := sixteenOf_within hc
  obtain ⟨f, floor⟩ := sixteenOf_within hf
  unfold State.stageSectorRequest
  rw [sector, ceiling, floor]
  rcases h with h | h
  · rw [payoutOf_above h]
  · rw [payoutOf_above h]
    cases payoutOf dmin <;> rfl

theorem State.stageSectorRequest_taken {sector ceiling floor : Byte} {dmin dmax : Word16} {i : Fin 9} {c f : Fin 16}
    (hs : sector.toNat = i.val) (hc : ceiling.toNat = c.val) (hf : floor.toNat = f.val) (lo : dmin.toNat ≤ 20000)
    (hi : dmax.toNat ≤ 20000) (hcap dcap scap : Word16) :
    let x : Sector := ⟨c, f, dmin.toNat, dmax.toNat, capOf hcap, capOf dcap, capOf scap⟩
    s.stageSectorRequest sector ceiling floor dmin dmax hcap dcap scap =
      ⟨s.withStaged { s.banks.staged with sectors := s.banks.staged.sectors.set i x }, [],
        if hcap.toNat ≤ 1000 ∧ dcap.toNat ≤ 1000 ∧ scap.toNat ≤ 1000 then .ok else .okClamped, sectorBytes i x⟩ := by
  intro x
  have status : okOr (capOf hcap != hcap.toNat || capOf dcap != dcap.toNat || capOf scap != scap.toNat) =
      if hcap.toNat ≤ 1000 ∧ dcap.toNat ≤ 1000 ∧ scap.toNat ≤ 1000 then .ok else .okClamped := by
    simp only [← capOf_eq_self_iff, okOr]
    split <;> split <;> simp_all
  unfold State.stageSectorRequest
  rw [sectorOf_eq hs, sixteenOf_eq hc, sixteenOf_eq hf, payoutOf_within lo, payoutOf_within hi, ← status]

theorem State.stageLengthRequest_noSuch {curve : Byte} (h : 15 < curve.toNat) (n : Byte) :
    s.stageLengthRequest curve n = refuse s .noSuch := by
  rw [stageLengthRequest, sixteenOf_above h]

theorem State.stageLengthRequest_range {curve n : Byte} (hc : curve.toNat ≤ 15) (h : 16 < n.toNat) :
    s.stageLengthRequest curve n = refuse s .range := by
  obtain ⟨i, curve⟩ := sixteenOf_within hc
  rw [stageLengthRequest, curve]
  exact if_pos h

theorem State.stageLengthRequest_taken {curve n : Byte} {i : Fin 16} (hc : curve.toNat = i.val) (h : n.toNat ≤ 16) :
    s.stageLengthRequest curve n = reply (s.withStagedCurve i { s.banks.staged.curve i with count := n.toNat }) [] := by
  rw [stageLengthRequest, sixteenOf_eq hc]
  exact if_neg (Nat.not_lt_of_le h)

theorem State.stageBrakeRequest_noSuch {curve : Byte} (h : 15 < curve.toNat) : s.stageBrakeRequest curve = refuse s .noSuch := by
  rw [stageBrakeRequest, sixteenOf_above h]

theorem State.stageBrakeRequest_taken {curve : Byte} {i : Fin 16} (h : curve.toNat = i.val) :
    s.stageBrakeRequest curve = reply (s.withStaged { s.banks.staged with brake := i }) [] := by
  rw [stageBrakeRequest, sixteenOf_eq h]

end

/-! ### The points of a curve (R57) -/

theorem pointOf_fits {p : RawPoint} (h : p.Fits) : pointOf p = some p.point := by
  rw [pointOf, payoutOf_within h.1, payoutOf_within h.2]
  rfl

theorem pointOf_unfit {p : RawPoint} (h : ¬p.Fits) : pointOf p = none := by
  unfold pointOf
  rcases Decidable.not_and_iff_or_not.1 h with x | y
  · rw [payoutOf_above (Nat.lt_of_not_le x)]
  · rw [payoutOf_above (Nat.lt_of_not_le y)]
    cases payoutOf p.x <;> rfl

theorem pointsOf_fits : ∀ {l : List RawPoint}, (∀ p ∈ l, p.Fits) → pointsOf l = some (l.map RawPoint.point)
  | [], _ => rfl
  | p :: rest, h => by
    obtain ⟨first, others⟩ := List.forall_mem_cons.1 h
    rw [pointsOf, pointOf_fits first, pointsOf_fits others]
    rfl

theorem pointsOf_unfit : ∀ {l : List RawPoint}, (¬∀ p ∈ l, p.Fits) → pointsOf l = none
  | [], h => absurd (List.forall_mem_nil _) h
  | p :: rest, h => by
    by_cases first : p.Fits
    · have others : ¬∀ q ∈ rest, q.Fits := fun all => h (List.forall_mem_cons.2 ⟨first, all⟩)
      rw [pointsOf, pointOf_fits first, pointsOf_unfit others]
    · rw [pointsOf, pointOf_unfit first]

/-- The slots from the first on hold the points in order, and every other slot stands. -/
theorem getElem_writeSlots (pts : List Point) : ∀ (slots : Vector Point 16) (first k : Nat) (hk : k < 16),
    (∀ j (hj : j < pts.length), k = first + j → (writeSlots slots first pts)[k] = pts[j]) ∧
      (k < first ∨ first + pts.length ≤ k → (writeSlots slots first pts)[k] = slots[k]) := by
  induction pts with
  | nil => exact fun _ _ _ _ => ⟨fun _ hj => absurd hj (Nat.not_lt_zero _), fun _ => rfl⟩
  | cons p rest ih =>
    intro slots first k hk
    obtain ⟨inside, outside⟩ := ih (slots.setIfInBounds first p) (first + 1) k hk
    refine ⟨fun j hj at_ => ?_, fun away => ?_⟩
    · cases j with
      | zero =>
        refine (outside (.inl (by omega))).trans ?_
        rw [Vector.getElem_setIfInBounds, if_pos (by omega)]
        rfl
      | succ j => exact inside j (Nat.lt_of_succ_lt_succ hj) (by omega)
    · rw [List.length_cons] at away
      refine (outside (by omega)).trans ?_
      rw [Vector.getElem_setIfInBounds, if_neg (by omega)]

theorem pointCount_eq {h : Header} {n : Nat} (low : 1 ≤ n) (high : n ≤ 6) (len : h.len.toNat = 4 * n + 2) :
    pointCount h.len = some n := by
  unfold pointCount
  rw [len]
  obtain rfl | rfl | rfl | rfl | rfl | rfl : n = 1 ∨ n = 2 ∨ n = 3 ∨ n = 4 ∨ n = 5 ∨ n = 6 := by omega
  all_goals rfl

theorem sentPoints_eq {h : Header} {n : Nat} (counted : pointCount h.len = some n) (points : Vector RawPoint 6) :
    sentPoints h points = points.toList.take n := by
  rw [sentPoints, counted]
  rfl

section
variable {s : State} {curve first : Byte} {points : List RawPoint}

theorem State.stagePointsRequest_noSuch (h : 15 < curve.toNat ∨ 16 < first.toNat + points.length) :
    s.stagePointsRequest curve first points = refuse s .noSuch := by
  unfold State.stagePointsRequest
  rcases h with h | h
  · rw [sixteenOf_above h]
  · split
    · rfl
    · exact if_pos h

variable (room : first.toNat + points.length ≤ 16)
include room

theorem State.stagePointsRequest_range (hc : curve.toNat ≤ 15) (unfit : ¬∀ p ∈ points, p.Fits) :
    s.stagePointsRequest curve first points = refuse s .range := by
  obtain ⟨i, curve⟩ := sixteenOf_within hc
  rw [stagePointsRequest, curve, pointsOf_unfit unfit]
  exact if_neg (Nat.not_lt_of_le room)

theorem State.stagePointsRequest_taken {i : Fin 16} (hc : curve.toNat = i.val) (fit : ∀ p ∈ points, p.Fits) :
    s.stagePointsRequest curve first points = reply (s.withStagedCurve i { s.banks.staged.curve i with
      slots := writeSlots (s.banks.staged.curve i).slots first.toNat (points.map RawPoint.point) }) [] := by
  rw [stagePointsRequest, sixteenOf_eq hc, pointsOf_fits fit]
  exact if_neg (Nat.not_lt_of_le room)

end

/-! ### A staging request taken -/

theorem State.staging_idle {s : State} (idle : s.banks.commit = none) (owner : Answer) : s.staging owner = owner :=
  if_neg (by simp [idle])

theorem State.staging_pending {s : State} (pending : s.banks.commit ≠ none) (owner : Answer) :
    s.staging owner = refuse s .stagedLocked :=
  if_pos (Option.isSome_iff_ne_none.2 pending)

/-- A staging request outside a pending commit is answered by its owner (R60). -/
theorem State.request_staged {s : State} {x : Header} (taken : s.takesNothing = false)
    (idle : s.receiveFrame.banks.commit = none) {code : Byte} {ok : Bool} (allowed : ok = true) {owner : State → Answer}
    {t : State} {status : Status} {payload : List Byte} (own : owner s.receiveFrame = ⟨t, [], status, payload⟩) :
    s.request x code ok (fun u => u.staging (owner u)) = t.answer x code status payload := by
  rw [allowed, State.request_taken taken, State.staging_idle idle, own]
  exact finish_nothing ..

/-- Every request of codes 0x20 to 0x26 of an allowed length is a staging request (R60, 12.3). -/
theorem exec_staging {i : Instr} {h : Header} {code : Byte} (isRequest : requestOf i = some (h, code))
    (low : 0x20 ≤ code.toNat) (high : code.toNat ≤ 0x26) (length : h.len.toNat ∈ allowedLengths code) :
    ∃ owner : State → Answer, ∀ s, exec i s = .next (s.request h code true fun u => u.staging (owner u)) := by
  have staged {ok : Bool} {owner : State → Answer}
      (run : ∀ s, exec i s = .next (s.request h code ok fun u => u.staging (owner u))) (allowed : ok = true) :
      ∃ owner : State → Answer, ∀ s, exec i s = .next (s.request h code true fun u => u.staging (owner u)) :=
    ⟨owner, fun s => allowed ▸ run s⟩
  have alone {n : Nat} (e : allowedLengths code = [n]) : lengthIs h n = true := beq_iff_eq.2 (List.mem_singleton.1 (e ▸ length))
  cases i with
  | stageWindow x window marks base mask sector => cases isRequest; exact staged (fun _ => rfl) (alone rfl)
  | stageSector x sector ceiling floor dmin dmax hc dc sc => cases isRequest; exact staged (fun _ => rfl) (alone rfl)
  | stageCurveLength x curve n => cases isRequest; exact staged (fun _ => rfl) (alone rfl)
  | stageCurvePoints x curve first points =>
    cases isRequest
    refine staged (fun _ => rfl) ?_
    have six : ∃ n, 1 ≤ n ∧ n ≤ 6 ∧ h.len.toNat = 4 * n + 2 := by
      have listed : h.len.toNat ∈ [6, 10, 14, 18, 22, 26] := length
      simp only [List.mem_cons, List.not_mem_nil, or_false] at listed
      exact ⟨(h.len.toNat - 2) / 4, by omega⟩
    obtain ⟨n, low, high, len⟩ := six
    rw [pointCount_eq low high len]
    rfl
  | stageBrakeCurve x curve => cases isRequest; exact staged (fun _ => rfl) (alone rfl)
  | stageClear x => cases isRequest; exact staged (fun _ => rfl) (alone rfl)
  | stageCopy x => cases isRequest; exact staged (fun _ => rfl) (alone rfl)
  | _ => cases isRequest <;> simp at low high

end Sys2Proof.Machine

namespace Sys2Proof.Machine

/-! ## What each staging request answers outside a pending commit -/

section
variable {s : State} {h : Header} (idle : s.receiveFrame.banks.commit = none)
include idle

/-- A staging request of its one length, whose owner hands nothing on (R60). -/
theorem State.next_staged {n : Nat} (frame : s.takesFrame h n) {code : Byte} {owner : State → Answer} {t : State}
    {status : Status} {payload : List Byte} (own : owner s.receiveFrame = ⟨t, [], status, payload⟩) :
    (.next (s.request h code (lengthIs h n) fun u => u.staging (owner u)) : Host.Outcome State Fault Refusal) =
      .next (t.answer h code status payload) :=
  congrArg Host.Outcome.next (State.request_staged frame.1 idle (beq_iff_eq.2 frame.2) own)

/-- A STAGE_CURVE_POINTS of n points, whose owner hands nothing on (R57). -/
theorem exec_stageCurvePoints_answered {n : Nat} (low : 1 ≤ n) (high : n ≤ 6) (frame : s.takesFrame h (4 * n + 2))
    {curve first : Byte} {points : Vector RawPoint 6} {t : State} {status : Status} {payload : List Byte}
    (own : s.receiveFrame.stagePointsRequest curve first (points.toList.take n) = ⟨t, [], status, payload⟩) :
    exec (.stageCurvePoints h curve first points) s = .next (t.answer h 0x23#8 status payload) := by
  have counted : pointCount h.len = some n := pointCount_eq low high frame.2
  refine congrArg Host.Outcome.next (State.request_staged frame.1 idle (Option.isSome_of_eq_some counted) ?_)
  rw [sentPoints_eq counted, own]

end

theorem fits_take_iff (points : Vector RawPoint 6) {n : Nat} (high : n ≤ 6) :
    (∀ p ∈ points.toList.take n, p.Fits) ↔ ∀ j : Fin 6, j.val < n → points[j].Fits := by
  constructor
  · intro all j hj
    exact all _ (List.mem_take_iff_getElem.2 ⟨j.val, by simp; omega, by simp⟩)
  · intro all p hp
    obtain ⟨j, hj, rfl⟩ := List.mem_take_iff_getElem.1 hp
    have bound : j < n := by omega
    have fits := all ⟨j, by omega⟩ bound
    simpa using fits

end Sys2Proof.Machine

section
open Sys2Proof Sys2Proof.Machine

/-- Settles O26: each request by its checks, the written slots by `getElem_writeSlots`, and the refusals by `exec_staging`. -/
theorem stagingRequestsWriteStaged : Obligations.StagingRequestsWriteStaged := by
  unfold Obligations.StagingRequestsWriteStaged
  refine ⟨fun s h => ?records, fun s h curve first points n low high frame => ?points,
    fun i h code s isRequest low high taken length => ?pending⟩
  case records =>
    intro r idle staged b cap
    refine ⟨fun frame window marks sector base mask => ?_, fun frame sector ceiling floor dmin dmax hc dc sc => ?_,
      fun frame curve n => ?_, fun frame curve => ?_, fun frame => ?_⟩
    · exact ⟨fun absent => State.next_staged idle frame (State.stageWindowRequest_noSuch absent marks base mask),
        fun hw hs above => State.next_staged idle frame (State.stageWindowRequest_range hw hs above marks),
        fun i k hw hs hb hm => State.next_staged idle frame (State.stageWindowRequest_taken hw hs hb hm marks)⟩
    · exact ⟨fun absent => State.next_staged idle frame (State.stageSectorRequest_noSuch absent dmin dmax hc dc sc),
        fun hs hcl hf above => State.next_staged idle frame (State.stageSectorRequest_range hs hcl hf above hc dc sc),
        fun i c f hs hcl hf lo hi => State.next_staged idle frame (State.stageSectorRequest_taken hs hcl hf lo hi hc dc sc)⟩
    · exact ⟨fun absent => State.next_staged idle frame (State.stageLengthRequest_noSuch absent n),
        fun hc above => State.next_staged idle frame (State.stageLengthRequest_range hc above),
        fun i hc within => State.next_staged idle frame (State.stageLengthRequest_taken hc within)⟩
    · exact ⟨fun absent => State.next_staged idle frame (State.stageBrakeRequest_noSuch absent),
        fun i hc => State.next_staged idle frame (State.stageBrakeRequest_taken hc)⟩
    · exact ⟨State.next_staged idle frame rfl, State.next_staged idle frame rfl⟩
  case points =>
    intro r idle done fits
    have count : (points.toList.take n).length = n := by simp [high]
    have fit_iff : (∀ p ∈ points.toList.take n, p.Fits) ↔ fits := fits_take_iff points high
    have answered {t : State} {status : Status} {payload : List Byte}
        (own : r.stagePointsRequest curve first (points.toList.take n) = ⟨t, [], status, payload⟩) :
        done = .next (t.answer h 0x23#8 status payload) := exec_stageCurvePoints_answered idle low high frame own
    refine ⟨fun absent => answered (State.stagePointsRequest_noSuch (count.symm ▸ absent)),
      fun hc room unfit => answered (State.stagePointsRequest_range (count.symm ▸ room) hc (mt fit_iff.1 unfit)),
      fun i hc room fit => ⟨_, answered (State.stagePointsRequest_taken (count.symm ▸ room) hc (fit_iff.2 fit)), ?_, ?_⟩⟩
    · intro j k hj at_
      have written := (getElem_writeSlots ((points.toList.take n).map RawPoint.point) (r.banks.staged.curve i).slots first.toNat
        k.val k.isLt).1 j.val (by simp; omega) at_
      simpa [RawPoint.point] using written
    · intro k away
      exact (getElem_writeSlots _ _ _ k.val k.isLt).2 (by simpa [high] using away)
  case pending =>
    intro waiting
    obtain ⟨owner, run⟩ := exec_staging isRequest low high length
    rw [run, State.request_taken taken, State.staging_pending waiting]
    exact congrArg Host.Outcome.next (finish_nothing ..)

end

namespace Sys2Proof.Machine

/-! ## The link watchdog through a request (R182)

No delivery and no owner of a request touches the watchdog, so that it stays, after every taken request but RESET, as the
frame received left it. -/

/-- The watchdog as R182 has it: whether it has lapsed, and the timer it runs on. -/
def State.link (s : State) : Bool × Option Timer := (s.sup.lapsed, s.sup.watchdog)

theorem State.link_of_sup {s t : State} (h : t.sup = s.sup) : t.link = s.link :=
  congrArg (fun x : Supervisor => (x.lapsed, x.watchdog)) h

theorem Undisturbed.link {s t : State} (h : Undisturbed s t) : t.link = s.link :=
  Prod.ext (congrArg (·.lapsed) h.sup) (congrArg (·.watchdog) h.sup)

theorem settle_link (r : State × List Act) : (settle r).link = r.1.link := (settle_undisturbed r).link

/-- A frame received leaves the watchdog RUNNING, restarted at LINK_TIMEOUT (R182). -/
theorem State.receiveFrame_link (s : State) : s.receiveFrame.link = (false, some (Timer.start (s.cfg .linkTimeout))) :=
  settle_link s.selectRise.restartWatchdog

/-- A taken request leaves the watchdog as the frame received left it, where its owner does not touch it. -/
theorem State.request_link {s : State} (taken : s.takesNothing = false) {owner : State → Answer}
    (own : ∀ u : State, (owner u).state.link = u.link) (h : Header) (code : Byte) (ok : Bool) :
    (s.request h code ok owner).link = s.receiveFrame.link := by
  cases ok with
  | false => rw [State.request_badLength taken]; rfl
  | true => rw [State.request_taken taken]; exact (settle_link _).trans (own _)

/-! ## The owners of the requests leave the watchdog -/

namespace State

variable (s : State)

/-! ### Settings -/

theorem setRequest_link (id : Byte) (value : Word16) : (s.setRequest id value).state.link = s.link := by
  unfold setRequest
  split
  · rfl
  · split
    · rfl
    · exact link_of_sup (congrArg (·.sup) (s.writeSetting_frame _ _).1)

theorem getRequest_link (id : Byte) : (s.getRequest id).state.link = s.link := by
  unfold getRequest
  split <;> rfl

/-! ### Motion requests -/

theorem takeDemand_link (a : Axis) (v : Int) : (s.takeDemand a v).1.link = s.link := by
  unfold takeDemand
  dsimp only
  split <;> rfl

theorem takeWalkDemand_link (v : Int) : (s.takeWalkDemand v).link = s.link := by
  unfold takeWalkDemand
  dsimp only
  split <;> rfl

theorem demandRequest_link (hd dd sd wd : Word16) : (s.demandRequest hd dd sd wd).state.link = s.link := by
  simp [demandRequest, takeDemand_link, takeWalkDemand_link]

theorem openAxis_link (a : Axis) (mode : Mode) : (s.openAxis a mode).state.link = s.link := by
  unfold openAxis
  split
  · rfl
  · show (s.openTaken a mode).1.link = s.link
    unfold openTaken
    dsimp only
    split <;> rfl

theorem openWalk_link (mode : Mode) : (s.openWalk mode).state.link = s.link := by
  unfold openWalk
  split
  · rfl
  · split <;> rfl

theorem openRequest_link (channel mode : Byte) : (s.openRequest channel mode).state.link = s.link := by
  unfold openRequest
  split
  · split
    · exact s.openAxis_link _ _
    · exact s.openWalk_link _
  · rfl

theorem closeAxis_link (a : Axis) : (s.closeAxis a).state.link = s.link := by
  unfold closeAxis
  split
  · rfl
  · rfl
  · rfl
  · exact (Steady.closeTo s a .close).link
  all_goals rfl

theorem closeWalk_link : s.closeWalk.state.link = s.link := by
  have halted : (s.haltWalk .close).1.link = s.link := (Steady.haltWalk s .close).link
  unfold closeWalk
  split
  · exact halted
  · exact halted
  · exact halted
  · split
    · exact (Steady.walkToIdle s .close).link
    · rfl
  all_goals rfl

theorem closeRequest_link (channel : Byte) : (s.closeRequest channel).state.link = s.link := by
  unfold closeRequest
  split
  · rfl
  · split
    · exact s.closeAxis_link _
    · exact s.closeWalk_link

theorem holdRequest_link (flag : Bool) : (s.holdRequest flag).state.link = s.link := by
  unfold holdRequest
  split <;> rfl

theorem referenceRequest_link (axis : Byte) (payout : Word16) : (s.referenceRequest axis payout).state.link = s.link := by
  unfold referenceRequest
  split
  · rfl
  · split
    · rfl
    · split
      · rfl
      · split
        · rfl
        · exact link_of_sup (s.setRope_sup _ _)

theorem resumeRequest_link : s.resumeRequest.state.link = s.link := by
  unfold resumeRequest
  split
  · rfl
  · rfl
  · split
    · rfl
    · split <;> rfl

/-! ### Ports -/

theorem portResetRequest_link (m : Motion) : (s.portResetRequest m).state.link = s.link := by
  unfold portResetRequest
  dsimp only
  split
  · rfl
  · rfl
  · split <;> rfl
  all_goals rfl

theorem portDisableRequest_link (m : Motion) : (s.portDisableRequest m).state.link = s.link := by
  unfold portDisableRequest
  split <;> rfl

/-! ### Banks -/

theorem staging_link {owner : Answer} (own : owner.state.link = s.link) : (s.staging owner).state.link = s.link := by
  unfold staging
  split
  · rfl
  · exact own

theorem stageWindowRequest_link (window marks : Byte) (base mask : Word16) (sector : Byte) :
    (s.stageWindowRequest window marks base mask sector).state.link = s.link := by
  unfold stageWindowRequest
  split
  · split <;> rfl
  · rfl

theorem stageSectorRequest_link (sector ceiling floor : Byte) (dmin dmax hoistCap dragCap swingCap : Word16) :
    (s.stageSectorRequest sector ceiling floor dmin dmax hoistCap dragCap swingCap).state.link = s.link := by
  unfold stageSectorRequest
  split
  · split <;> rfl
  · rfl

theorem stageLengthRequest_link (curve n : Byte) : (s.stageLengthRequest curve n).state.link = s.link := by
  unfold stageLengthRequest
  split
  · rfl
  · split <;> rfl

theorem stagePointsRequest_link (curve first : Byte) (points : List RawPoint) :
    (s.stagePointsRequest curve first points).state.link = s.link := by
  unfold stagePointsRequest
  split
  · rfl
  · split
    · rfl
    · split <;> rfl

theorem stageBrakeRequest_link (curve : Byte) : (s.stageBrakeRequest curve).state.link = s.link := by
  unfold stageBrakeRequest
  split <;> rfl

theorem commitRequest_link : s.commitRequest.state.link = s.link := by
  unfold commitRequest
  split
  · rfl
  · split <;> rfl

theorem cancelRequest_link : s.cancelRequest.state.link = s.link := by
  unfold cancelRequest
  split <;> rfl

theorem configGetRequest_link (bank item index first : Byte) :
    (s.configGetRequest bank item index first).state.link = s.link := by
  unfold configGetRequest
  split
  · rfl
  · split <;> rfl

theorem sectorAtRequest_link (angle : Word16) (bank : Byte) : (s.sectorAtRequest angle bank).state.link = s.link := by
  unfold sectorAtRequest
  split
  · rfl
  · split <;> rfl

/-! ### The plan and the walk -/

theorem legAppendRequest_link (window steps : Byte) (speed : Word16) :
    (s.legAppendRequest window steps speed).state.link = s.link := by
  unfold legAppendRequest
  split
  · rfl
  · split
    · rfl
    · split <;> rfl

theorem legDropRequest_link (id : Byte) : (s.legDropRequest id).state.link = s.link := by
  unfold legDropRequest
  split
  · rfl
  · dsimp only
    split <;> rfl

theorem planClearRequest_link : s.planClearRequest.state.link = s.link := by
  unfold planClearRequest
  split <;> rfl

theorem planGetRequest_link (first : Byte) : (s.planGetRequest first).state.link = s.link := by
  unfold planGetRequest
  split <;> rfl

theorem startFromIdle_link : s.startFromIdle.state.link = s.link := by
  unfold startFromIdle
  split
  · rfl
  · split
    · rfl
    · split <;> rfl

theorem startRecovery_link : s.startRecovery.state.link = s.link := by
  unfold startRecovery
  split <;> rfl

theorem walkStartRequest_link : s.walkStartRequest.state.link = s.link := by
  unfold walkStartRequest
  split
  · exact s.startFromIdle_link
  · exact s.startRecovery_link
  all_goals rfl

theorem walkHaltRequest_link : s.walkHaltRequest.state.link = s.link := by
  have halted : (s.haltWalk .halt).1.link = s.link := (Steady.haltWalk s .halt).link
  unfold walkHaltRequest
  split
  · exact halted
  · exact halted
  · exact halted
  all_goals rfl

/-! ### Alarms -/

theorem defineRequest_link (code cls scope p : Byte) (cap : Word16) (polarity : Byte) :
    (s.defineRequest code cls scope p cap polarity).state.link = s.link := by
  unfold defineRequest
  split
  · rfl
  · split
    · split
      · rfl
      · split <;> rfl
    · rfl

theorem raiseRequest_link (code : Byte) (value : Option Int) : (s.raiseRequest code value).state.link = s.link := by
  unfold raiseRequest
  split <;> rfl

theorem clearRequest_link (code : Byte) : (s.clearRequest code).state.link = s.link := by
  unfold clearRequest
  split <;> rfl

theorem ackRecord_link (c : Code) : (s.ackRecord c).link = s.link := link_of_sup (onlyTable_ackRecord s c).sup

theorem ackRequest_link (code : Byte) : (s.ackRequest code).state.link = s.link := by
  unfold ackRequest
  split
  · rfl
  · split
    · exact s.ackRecord_link _
    · exact s.ackRecord_link _
    · rfl
    · rfl

theorem ackEach_link (codes : List Code) : ∀ s : State, (s.ackEach codes).link = s.link := by
  induction codes with
  | nil => exact fun _ => rfl
  | cons c rest ih => exact fun s => (ih (s.ackRecord c)).trans (s.ackRecord_link c)

theorem shelveRequest_link (code minutes : Byte) : (s.shelveRequest code minutes).state.link = s.link := by
  unfold shelveRequest
  split
  · rfl
  · split
    · rfl
    · split <;> rfl

theorem unshelveRequest_link (code : Byte) : (s.unshelveRequest code).state.link = s.link := by
  unfold unshelveRequest
  split
  · rfl
  · split <;> rfl

end State

/-! ## Every taken request but RESET -/

/-- A taken request but RESET leaves the watchdog as the frame received left it, whatever its length and status (R182). -/
theorem exec_request_link {i : Instr} {h : Header} {code : Byte} {s : State} (isRequest : requestOf i = some (h, code))
    (notReset : ∀ x, i ≠ .reset x) (taken : s.takesNothing = false) :
    ∃ t, exec i s = .next t ∧ t.link = s.receiveFrame.link := by
  have kept {x : Header} {c : Byte} {ok : Bool} {owner : State → Answer} (own : ∀ u : State, (owner u).state.link = u.link) :
      ∃ t, (.next (s.request x c ok owner) : Host.Outcome State Fault Refusal) = .next t ∧ t.link = s.receiveFrame.link :=
    ⟨_, rfl, State.request_link taken own x c ok⟩
  cases i with
  | nop x => exact kept fun _ => rfl
  | status x => exact kept fun _ => rfl
  | reset r => exact absurd rfl (notReset r)
  | set x id value => exact kept fun u => u.setRequest_link id value
  | get x id => exact kept fun u => u.getRequest_link id
  | eventsAck x flags => exact kept fun _ => rfl
  | eventsMask x flags => exact kept fun _ => rfl
  | snapshot x => exact kept fun _ => rfl
  | snapshotRead x part => exact kept fun u => by split <;> rfl
  | demand x hd dd sd wd => exact kept fun u => u.demandRequest_link hd dd sd wd
  | openChannel x channel mode => exact kept fun u => u.openRequest_link channel mode
  | closeChannel x channel => exact kept fun u => u.closeRequest_link channel
  | holdAll x => exact kept fun u => u.holdRequest_link true
  | releaseAll x => exact kept fun u => u.holdRequest_link false
  | reference x axis payout => exact kept fun u => u.referenceRequest_link axis payout
  | resume x => exact kept fun u => u.resumeRequest_link
  | portReset x port =>
    refine kept fun u => ?_
    split
    · exact u.portResetRequest_link _
    · rfl
  | portDisable x port =>
    refine kept fun u => ?_
    split
    · exact u.portDisableRequest_link _
    · rfl
  | portGet x port => exact kept fun u => by split <;> rfl
  | stageWindow x window marks base mask sector =>
    exact kept fun u => u.staging_link (u.stageWindowRequest_link window marks base mask sector)
  | stageSector x sector ceiling floor dmin dmax hoistCap dragCap swingCap =>
    exact kept fun u => u.staging_link (u.stageSectorRequest_link sector ceiling floor dmin dmax hoistCap dragCap swingCap)
  | stageCurveLength x curve n => exact kept fun u => u.staging_link (u.stageLengthRequest_link curve n)
  | stageCurvePoints x curve first points => exact kept fun u => u.staging_link (u.stagePointsRequest_link curve first _)
  | stageBrakeCurve x curve => exact kept fun u => u.staging_link (u.stageBrakeRequest_link curve)
  | stageClear x => exact kept fun u => u.staging_link rfl
  | stageCopy x => exact kept fun u => u.staging_link rfl
  | commit x => exact kept fun u => u.commitRequest_link
  | commitCancel x => exact kept fun u => u.cancelRequest_link
  | configGet x bank item index first => exact kept fun u => u.configGetRequest_link bank item index first
  | sectorAt x angle bank => exact kept fun u => u.sectorAtRequest_link angle bank
  | legAppend x window steps speed => exact kept fun u => u.legAppendRequest_link window steps speed
  | legDrop x id => exact kept fun u => u.legDropRequest_link id
  | planClear x => exact kept fun u => u.planClearRequest_link
  | planGet x first => exact kept fun u => u.planGetRequest_link first
  | walkStart x => exact kept fun u => u.walkStartRequest_link
  | walkHalt x => exact kept fun u => u.walkHaltRequest_link
  | define x code cls scope persistence cap polarity =>
    exact kept fun u => u.defineRequest_link code cls scope persistence cap polarity
  | definitionGet x code => exact kept fun u => by split <;> rfl
  | raise x code value => exact kept fun u => u.raiseRequest_link code _
  | clear x code => exact kept fun u => u.clearRequest_link code
  | ack x code => exact kept fun u => u.ackRequest_link code
  | ackAll x => exact kept fun u => u.ackEach_link _
  | shelve x code minutes => exact kept fun u => u.shelveRequest_link code minutes
  | unshelve x code => exact kept fun u => u.unshelveRequest_link code
  | silence x => exact kept fun _ => rfl
  | alarmListFirst x => exact kept fun _ => rfl
  | alarmListNext x => exact kept fun u => by split <;> rfl
  | alarmGet x code => exact kept fun u => by split <;> rfl
  | _ => exact nomatch isRequest

end Sys2Proof.Machine

section
open Sys2Proof Sys2Proof.Machine

/-- Settles O6: the frame received restarts the watchdog, and nothing of the request after it touches the watchdog. -/
theorem everyGoodFrameRestartsTheWatchdog : Obligations.EveryGoodFrameRestartsTheWatchdog := by
  unfold Obligations.EveryGoodFrameRestartsTheWatchdog
  intro i h code s isRequest notReset taken
  obtain ⟨t, run, kept⟩ := exec_request_link isRequest notReset taken
  obtain ⟨lapsed, timer⟩ := Prod.mk.inj (kept.trans s.receiveFrame_link)
  exact ⟨t, run, lapsed, timer⟩

end

namespace Sys2Proof.Machine

/-! ## A transaction that is not taken, and an event in a reset (R184, R187, R190) -/

/-- A request in a transaction that the port does not take only ends that transaction. -/
theorem exec_request_untaken {i : Instr} {x : Header × Byte} {s : State} (isRequest : requestOf i = some x)
    (untaken : s.takesNothing = true) : exec i s = .next s.selectRise := by
  cases i with
  | reset r => exact congrArg Host.Outcome.next (if_pos untaken)
  | commit x => exact congrArg Host.Outcome.next (State.request_untaken untaken ..)
  | walkStart x => exact congrArg Host.Outcome.next (State.request_untaken untaken ..)
  | _ =>
    obtain ⟨ok, owner, _, run⟩ := exec_request_proper isRequest nofun nofun nofun
    exact (run s).trans (congrArg Host.Outcome.next (State.request_untaken untaken ..))

/-- During a reset every command has no effect but the requests, the two failed frames, SELECT_FALL, POWER_ON and
RESET_END. -/
theorem exec_event_inReset {i : Instr} {s : State} (reset : s.inReset = true) (noRequest : requestOf i = none)
    (notError : ∀ r t c, i ≠ .frameError r t c) (notUnknown : ∀ t c, i ≠ .unknownRequest t c)
    (notFall : ∀ g, i ≠ .selectFall g) (notPower : i ≠ .powerOn) (notEnd : ∀ n k, i ≠ .resetEnd n k) :
    exec i s = .next s := by
  have ignored {f : State → State × List Act} : (.next (s.event f) : Host.Outcome State Fault Refusal) = .next s :=
    congrArg Host.Outcome.next (State.event_inReset reset f)
  cases i with
  | frameError r t c => exact absurd rfl (notError r t c)
  | unknownRequest t c => exact absurd rfl (notUnknown t c)
  | selectFall g => exact absurd rfl (notFall g)
  | powerOn => exact absurd rfl notPower
  | resetEnd n k => exact absurd rfl (notEnd n k)
  | resetNLow micros => exact congrArg Host.Outcome.next (if_pos (.inr reset))
  | inclinometerFrame bytes => exact congrArg Host.Outcome.next (if_pos reset)
  | axisSampleArrival axis faultLine => exact ignored
  | ropeEncoderEdge rope edge => exact ignored
  | swingEncoderEdge edge => exact ignored
  | swingIndexMark => exact ignored
  | camToothEdge dir pulse => exact ignored
  | camIndexPassage dir pulse => exact ignored
  | inclinometerFrameGap gap => exact ignored
  | stalenessTimerExpiry => exact ignored
  | externalInputSample levels => exact ignored
  | presenceChange port active held => exact ignored
  | resetSequenceTick port => exact ignored
  | linkPeriodEvent port => exact ignored
  | driveStatusFrame port bytes => exact ignored
  | openTimerExpiry axis => exact ignored
  | walkOpenTimerExpiry => exact ignored
  | restTimerExpiry channel => exact ignored
  | demandTimerExpiry axis => exact ignored
  | walkDemandTimerExpiry => exact ignored
  | brakeWatchTimerExpiry port => exact ignored
  | commitTimerExpiry => exact ignored
  | shelveTimerExpiry code => exact ignored
  | linkWatchdogExpiry => exact ignored
  | _ => exact nomatch noRequest

end Sys2Proof.Machine

section
open Sys2Proof Sys2Proof.Machine

/-- Settles O5: a request, a failed frame and an unknown request each by the test that takes no transaction, and every other
event by the test for a reset. -/
theorem nothingHappensInAReset : Obligations.NothingHappensInAReset := by
  unfold Obligations.NothingHappensInAReset
  refine ⟨fun i s untaken transaction => ?transaction, fun i s reset noRequest notError notUnknown notFall notPower notEnd =>
    exec_event_inReset reset noRequest notError notUnknown notFall notPower notEnd⟩
  case transaction =>
    rcases transaction with ⟨_, isRequest⟩ | ⟨_, _, _, rfl⟩ | ⟨_, _, rfl⟩
    · exact exec_request_untaken isRequest untaken
    · exact congrArg Host.Outcome.next (if_pos untaken)
    · exact congrArg Host.Outcome.next (if_pos untaken)

end

namespace Sys2Proof.Machine

/-- The case of `step` for a queue that is not empty (00_scope 3.6, assumption log 5). -/
theorem step_of_pending_cons {c : Instr} {rest : List Instr} {s : State} (queue : s.pending = c :: rest) :
    step s = exec c { s with pending := rest } := by
  rw [step, queue]

end Sys2Proof.Machine

section
open Sys2Proof Sys2Proof.Machine

/-- Settles O1, by the equation of `step` for a command at the front. -/
theorem stepRunsFrontCommand : Obligations.StepRunsFrontCommand := by
  unfold Obligations.StepRunsFrontCommand
  intro c rest s queue
  exact step_of_pending_cons queue

end
